-- ==== Sys2Proof/Word.lean ====
section
/-! DEFINITION. The byte of the block's streams and registers (00_scope.md R8). Nothing in the block is signed, and nothing
adds or subtracts (R10), so BitVec's own bitwise operations and zero extension are all the arithmetic there is. -/

namespace Sys2Proof

/-- An unsigned 8-bit value, bit 0 the least significant (00_scope.md R8). -/
abbrev Byte := BitVec 8

end Sys2Proof
end

