-- ==== Sys2Proof/Config.lean ====
section
/-! DEFINITION. What an implementation fixes: the parameters of 00_scope.md R7 that a rule's outcome depends on, their
defaults, and the free values (opaque constants that nothing can evaluate). BACKOFF_TIME and POLL_TIME are timing only (R7,
70_reset_and_hazards.md R293) and no outcome depends on them: they are left out, notes/assumptions/16.md. -/

namespace Sys2Proof

/-- The seven address-map values of 10_state.md R22 and the receive FIFO's depth (00_scope.md R7). They are fixed for the
run: no operation of the block reads back or writes one (R22). Which configurations are legal (R23) is
`Sys2Proof.Machine.cfgLegal`. -/
structure Config where
  /-- `ANALOG_BASE`, first holding register of writeAnalog. -/
  analogBase : BitVec 16
  /-- `INFLAG_BASE`, first coil of writeInputFlags. -/
  inflagBase : BitVec 16
  /-- `OUTFLAG_BASE`, first coil of writeOutputFlags. -/
  outflagBase : BitVec 16
  /-- `OUTFLAG2_BASE`, first coil of writeOutputFlags2. -/
  outflag2Base : BitVec 16
  /-- `OVERRIDE_COIL`: `none` when it is not given, which R23 refuses, since it has no default. -/
  overrideCoil : Option (BitVec 16)
  /-- `ACT_BASE`, first coil of readActuatorCoils. -/
  actBase : BitVec 16
  /-- `ACT_COUNT`, coils read by readActuatorCoils; legal values 14, 15 and 16. -/
  actCount : Nat
  /-- `RX_DEPTH`, capacity of the receive FIFO in bytes; legal values 10 and above. -/
  rxDepth : Nat
deriving DecidableEq, Repr

/-- The override coil of an implementation: OPEN, with no default (R7, 92_eei_decisions.md D3). DESIGN CHOICE, safe
(notes/assumptions/4.md): a parameter nothing can evaluate, so that no claim rests on an invented number. -/
opaque Config.overrideCoilParam : BitVec 16

/-- What `ser_link_ok` shows until the environment drives it: a draw (42_bridge_loop.md R201, 93 I8). Free value,
DESIGN CHOICE, safe (notes/assumptions/5.md). -/
opaque Config.freeSerLink : Bool

/-- What `plc_link_ok` shows until the environment drives it: a draw (R201, 93 I8). Free value, DESIGN CHOICE, safe
(notes/assumptions/5.md). -/
opaque Config.freePlcLink : Bool

/-- What `wallclock` shows until the environment drives it: a draw (R211, 93 I7). Free value, DESIGN CHOICE, safe
(notes/assumptions/5.md). -/
opaque Config.freeWallclock : BitVec 64

/-- The defaults of 00_scope.md R7, and the given override coil. -/
def Config.withDefaults (overrideCoil : BitVec 16) : Config where
  analogBase := 0
  inflagBase := 0
  outflagBase := 8
  outflag2Base := 16
  overrideCoil := some overrideCoil
  actBase := 8
  actCount := 14
  rxDepth := 32

end Sys2Proof
end

