-- ==== Sys2Proof/Machine/Configuration.lean ====
section
/-! DEFINITION. Which configurations are legal (10_state.md R23). -/

namespace Sys2Proof.Machine

/-- Base and count of a range stay inside the 65536 cells of an address space (R23): no range wraps. -/
def rangeFits (base : BitVec 16) (count : Nat) : Bool := base.toNat + count ≤ 65536

/-- A configuration is legal if and only if all the conditions of R23 hold. `OVERRIDE_COIL + 1 <= 65536` holds of every
16-bit value, so of that coil R23 asks only that it is given. -/
def cfgLegal (c : Config) : Bool :=
  rangeFits c.analogBase 5 && rangeFits c.inflagBase 8 && rangeFits c.outflagBase 8 && rangeFits c.outflag2Base 6
    && rangeFits c.actBase c.actCount
    && (c.actCount == 14 || c.actCount == 15 || c.actCount == 16)
    && decide (10 ≤ c.rxDepth)
    && c.overrideCoil.isSome

end Sys2Proof.Machine
end

