-- ==== Sys2Proof/Syntax.lean ====
section
/-! DEFINITION. The instructions, one constructor per row of spec/opcode_table.json, and the words that carry them. An
instruction is "one operation of the block" (00_scope.md R2): a frame it decodes or emits, a PLC port operation it issues, a
state of its cycle state machine, or a log word it emits. -/

namespace Sys2Proof

/-- The sixteen codes of the state register `st` (30_encoding.md R100); `reserved` is code 0xF, which no rule enters
(42_bridge_loop.md R216). -/
inductive St where
  | init | await | decode | wrAnalog | rdOverride | wrInflags | wrOutflags | wrOutflags2
  | rdActuators | sendReply | persist | backoff | teardown | halted | failed | reserved
deriving DecidableEq, Repr

/-- The six PLC port operations, in the order of their op codes 0 to 5 (30_encoding.md R99). -/
inductive GatewayOp where
  | writeAnalog | writeInputFlags | writeOutputFlags | writeOutputFlags2 | readOverrideFlag | readActuatorCoils
deriving DecidableEq, Repr

/-- The four causes a failure response can carry, in the order of their codes 0 to 3 (30_encoding.md R102). -/
inductive Cause where
  | connectionReset | timeout | malformed | other
deriving DecidableEq, Repr

/-- The instructions: one constructor per row of spec/opcode_table.json, in the table's order. -/
inductive Instr where
  /-- FRAME (F10, 30_encoding.md R91): the fields a, b, c, d, e, i, o, r, p, k of the ten bytes; the start byte is fixed. -/
  | frame (level1 level2 tds flow pressure inputFlags outputFlags : Byte) (rsv : BitVec 2) (outputFlags2 : BitVec 6)
      (checksum : Byte)
  /-- ACK (A1, R95). -/
  | ack
  /-- OVR (O3, R96): flagOne and flagTwo. -/
  | ovr (flagOne flagTwo : Byte)
  /-- writeAnalog (PLCREQ, op 0; 41_gateway.md R171). The address and count of the six come from the configuration. -/
  | writeAnalog
  /-- writeInputFlags (op 1; R172). -/
  | writeInputFlags
  /-- writeOutputFlags (op 2; R173). -/
  | writeOutputFlags
  /-- writeOutputFlags2 (op 3; R174). -/
  | writeOutputFlags2
  /-- readOverrideFlag (op 4; R175). -/
  | readOverrideFlag
  /-- readActuatorCoils (op 5; R176). -/
  | readActuatorCoils
  /-- ST_INIT (code 0x0; 42_bridge_loop.md R201). -/
  | stInit
  /-- ST_AWAIT (0x1; R202). -/
  | stAwait
  /-- ST_DECODE (0x2; R203). -/
  | stDecode
  /-- ST_WR_ANALOG (0x3; R204). -/
  | stWrAnalog
  /-- ST_RD_OVERRIDE (0x4; R205). -/
  | stRdOverride
  /-- ST_WR_INFLAGS (0x5; R206). -/
  | stWrInflags
  /-- ST_WR_OUTFLAGS (0x6; R207). -/
  | stWrOutflags
  /-- ST_WR_OUTFLAGS2 (0x7; R208). -/
  | stWrOutflags2
  /-- ST_RD_ACTUATORS (0x8; R209). -/
  | stRdActuators
  /-- ST_SEND_REPLY (0x9; R210). -/
  | stSendReply
  /-- ST_PERSIST (0xA; R211). -/
  | stPersist
  /-- ST_BACKOFF (0xB; R212). -/
  | stBackoff
  /-- ST_TEARDOWN (0xC; R213). -/
  | stTeardown
  /-- ST_HALTED (0xD; R214). -/
  | stHalted
  /-- ST_FAILED (0xE; R215). -/
  | stFailed
  /-- ST_RESERVED_STATE (0xF; R216). -/
  | stReserved
  /-- LOG_BAD_LENGTH (LOG32 code 0x1, 30_encoding.md R101): aux0 = the length seen. -/
  | logBadLength (len : Byte)
  /-- LOG_BAD_START_BYTE (code 0x2): aux0 = byte 0. -/
  | logBadStartByte (start : Byte)
  /-- LOG_CHECKSUM_MISMATCH (code 0x3): aux0 = the computed fold, aux1 = the received checksum. -/
  | logChecksumMismatch (computed received : Byte)
  /-- LOG_GATEWAY_ERROR (code 0x4): op and cause. -/
  | logGatewayError (op : GatewayOp) (cause : Cause)
  /-- LOG_STARTUP_FAILURE (code 0x5): aux0 bit 0 = serial link failed, bit 1 = PLC link failed. -/
  | logStartupFailure (serFailed plcFailed : Bool)
deriving DecidableEq, Repr

/-- A word as it stands on the port that carries it (30_encoding.md): the same bits mean different things on different
ports, so a word names its port. -/
inductive PortWord where
  /-- A group of bytes of the serial receive stream (R91), byte 0 first. -/
  | rxGroup (bytes : List Byte)
  /-- A reply on the serial transmit stream (R95, R96), byte 0 first. -/
  | txReply (bytes : List Byte)
  /-- The 29-bit header H of a request on the PLC port (R98). -/
  | plcHeader (h : BitVec 29)
  /-- The code of `st`, driven on `fsm_state[3:0]` (R100). -/
  | stateCode (c : BitVec 4)
  /-- A log word (R101). -/
  | logWord (w : BitVec 32)
deriving DecidableEq, Repr

/-- Why a word is no instruction of the table, by name. -/
inductive Reject where
  /-- An inbound group that is not exactly 10 bytes (30_encoding.md R91). -/
  | badLength (n : Nat)
  /-- An inbound group whose byte 0 is not 0xAA (R92). -/
  | badStartByte (b : Byte)
  /-- Bytes that are neither of the two reply formats (R97). -/
  | notAReply (bytes : List Byte)
  /-- A header that is none of the six requests of this configuration (R99: "The block never issues any other function
  code"). -/
  | notARequest (h : BitVec 29)
  /-- A log word of a reserved code: 0x0, 0x6 to 0xF (R101). -/
  | reservedLogCode (code : BitVec 4)
  /-- A log word of a defined code with a field R101 does not allow there (a reserved op code, a set zero bit). -/
  | malformedLogWord (w : BitVec 32)
deriving DecidableEq, Repr

end Sys2Proof
end

