-- ==== Sys2Proof/Machine/Codec.lean ====
section
/-! DEFINITION. PacketCodec (40_codec.md): the checksum, decode, the named flag records, packing and the two replies. Every
function is pure (R148): it returns a value its arguments alone determine. -/

namespace Sys2Proof.Machine

/-- The XOR fold of a byte sequence, 0 for the empty one (R130). -/
def xorfold (bs : List Byte) : Byte := bs.foldl (· ^^^ ·) 0

/-- Byte `i` of a sequence; 0 past its end, which no caller reads. -/
def byteAt (bs : List Byte) (i : Nat) : Byte := bs.getD i 0

/-- What `decode` can fail with (R133 to R135). -/
inductive DecodeError where
  /-- The input is not exactly 10 bytes. -/
  | badLength (len : Nat)
  /-- Byte 0 is not 0xAA. -/
  | badStartByte (b : Byte)
  /-- The fold of bytes 0 to 8 is not byte 9. -/
  | checksumMismatch (computed received : Byte)
deriving DecidableEq, Repr

/-- inputFlags: 8 named booleans in declaration order, bit 0 first (R136). None changes what the block does. -/
structure InputFlags where
  (levelSwitch pbStart modeStandby modeFiltering modeBackwash modeDrain modeOverride emergencyStop : Bool)
deriving DecidableEq, Repr

/-- outputFlags: 8 named booleans, bit 0 first (R137). -/
structure OutputFlags where
  (solenoid1 solenoid2 solenoid3 solenoid4 solenoid5 solenoid6 pump1 pump2 : Bool)
deriving DecidableEq, Repr

/-- outputFlags2: 6 named booleans, bit 0 first (R138). -/
structure OutputFlags2 where
  (pump3 standbyLamp filteringLamp backwashLamp drainLamp stepper : Bool)
deriving DecidableEq, Repr

/-- The result of a successful decode (R132). -/
structure SensorFrame where
  (level1 level2 tds flow pressure : Byte)
  inputFlags : InputFlags
  outputFlags : OutputFlags
  outputFlags2 : OutputFlags2
deriving DecidableEq, Repr

/-- `unpack8` with the names of R136: field i is bit i (R139). -/
def unpackInputFlags (v : Byte) : InputFlags :=
  ⟨v.getLsbD 0, v.getLsbD 1, v.getLsbD 2, v.getLsbD 3, v.getLsbD 4, v.getLsbD 5, v.getLsbD 6, v.getLsbD 7⟩

/-- `unpack8` with the names of R137 (R139). -/
def unpackOutputFlags (v : Byte) : OutputFlags :=
  ⟨v.getLsbD 0, v.getLsbD 1, v.getLsbD 2, v.getLsbD 3, v.getLsbD 4, v.getLsbD 5, v.getLsbD 6, v.getLsbD 7⟩

/-- `unpack6` with the names of R138: it never sees bits 7:6 (R139). -/
def unpackOutputFlags2 (v : BitVec 6) : OutputFlags2 :=
  ⟨v.getLsbD 0, v.getLsbD 1, v.getLsbD 2, v.getLsbD 3, v.getLsbD 4, v.getLsbD 5⟩

/-- Bits 5:0 of frame byte 8 (30_encoding.md R93, R104); bits 7:6 are discarded. -/
def lowSix (v : Byte) : BitVec 6 := v.extractLsb' 0 6

/-- Frame byte 8: the reserved bits above the six of outputFlags2 (30_encoding.md R91, R93). -/
def flag2Byte (rsv : BitVec 2) (outputFlags2 : BitVec 6) : Byte := rsv ++ outputFlags2

/-- `decode` (R132): the three checks in the order BadLength, BadStartByte, ChecksumMismatch (60_exceptions.md R258), then
the fields. -/
def codecDecode (bs : List Byte) : Except DecodeError SensorFrame :=
  if bs.length ≠ 10 then .error (.badLength bs.length)
  else if byteAt bs 0 ≠ 0xAA#8 then .error (.badStartByte (byteAt bs 0))
  else if xorfold (bs.take 9) ≠ byteAt bs 9 then .error (.checksumMismatch (xorfold (bs.take 9)) (byteAt bs 9))
  else .ok
    { level1 := byteAt bs 1, level2 := byteAt bs 2, tds := byteAt bs 3, flow := byteAt bs 4, pressure := byteAt bs 5
      inputFlags := unpackInputFlags (byteAt bs 6)
      outputFlags := unpackOutputFlags (byteAt bs 7)
      outputFlags2 := unpackOutputFlags2 (lowSix (byteAt bs 8)) }

/-- `pack8` (R140): bit i of the byte is boolean i. -/
def pack8 (f : List Bool) : Byte :=
  BitVec.ofBool (f.getD 7 false) ++ BitVec.ofBool (f.getD 6 false) ++ BitVec.ofBool (f.getD 5 false)
    ++ BitVec.ofBool (f.getD 4 false) ++ BitVec.ofBool (f.getD 3 false) ++ BitVec.ofBool (f.getD 2 false)
    ++ BitVec.ofBool (f.getD 1 false) ++ BitVec.ofBool (f.getD 0 false)

/-- The bits of a byte as booleans, bit 0 first. -/
def bitsOf8 (v : Byte) : List Bool :=
  [v.getLsbD 0, v.getLsbD 1, v.getLsbD 2, v.getLsbD 3, v.getLsbD 4, v.getLsbD 5, v.getLsbD 6, v.getLsbD 7]

/-- `unpack16` (R144): the microcontroller's inverse of the reply packing. The block never calls it. -/
def unpack16 (flagOne flagTwo : Byte) : List Bool := bitsOf8 flagOne ++ bitsOf8 flagTwo

/-- The 16 booleans of a 16-bit image, coil 0 first: the argument `encodeOverride` gets in the block (R142). -/
def coilsOf (a : BitVec 16) : List Bool := bitsOf8 (a.extractLsb' 0 8) ++ bitsOf8 (a.extractLsb' 8 8)

/-- `pad16` (R141): the bits of a coil read at and above `n` become 0. -/
def pad16 (rdata : BitVec 16) (n : Nat) : BitVec 16 := rdata &&& BitVec.ofNat 16 (2 ^ n - 1)

/-- What `encodeOverride` can fail with (R142): the number of booleans it was given. -/
inductive PackError where
  /-- The input is not exactly 16 booleans. -/
  | invalidFlagCount (n : Nat)
deriving DecidableEq, Repr

/-- `encodeOverride` (R142): [0xBB, flagOne, flagTwo] of exactly 16 booleans. -/
def encodeOverride (c : List Bool) : Except PackError (List Byte) :=
  if c.length ≠ 16 then .error (.invalidFlagCount c.length)
  else .ok [0xBB#8, pack8 (c.take 8), pack8 (c.drop 8)]

/-- `encodeAck` (R143). -/
def encodeAck : List Byte := [0xFF#8]

end Sys2Proof.Machine
end

