-- ==== Sys2Proof/WellFormed.lean ====
section
/-! DEFINITION. Which instructions are well formed: the ones the block decodes as good or can itself emit or be in. An
ill-formed one still has a word and a meaning; it is a frame that fails its check, the reserved state code, or a log word no
event of the block produces. -/

namespace Sys2Proof

/-- The instruction is one the rules produce: a frame with the checksum of 30_encoding.md R94; any state but the reserved
code (42_bridge_loop.md R216); a framing log whose data shows the error it names (40_codec.md R133 to R135); a start-up log
with at least one failed link (60_exceptions.md R253). -/
def WellFormed : Instr → Bool
  | .frame l1 l2 t f p i o r o2 k => Machine.xorfold [0xAA#8, l1, l2, t, f, p, i, o, Machine.flag2Byte r o2] == k
  | .ack => true
  | .ovr _ _ => true
  | .writeAnalog => true
  | .writeInputFlags => true
  | .writeOutputFlags => true
  | .writeOutputFlags2 => true
  | .readOverrideFlag => true
  | .readActuatorCoils => true
  | .stInit => true
  | .stAwait => true
  | .stDecode => true
  | .stWrAnalog => true
  | .stRdOverride => true
  | .stWrInflags => true
  | .stWrOutflags => true
  | .stWrOutflags2 => true
  | .stRdActuators => true
  | .stSendReply => true
  | .stPersist => true
  | .stBackoff => true
  | .stTeardown => true
  | .stHalted => true
  | .stFailed => true
  | .stReserved => false
  | .logBadLength n => n != 10#8
  | .logBadStartByte b => b != 0xAA#8
  | .logChecksumMismatch c r => c != r
  | .logGatewayError _ _ => true
  | .logStartupFailure ser plc => ser || plc

end Sys2Proof
end

