-- ==== Sys2Proof/Decode.lean ====
section
/-! DEFINITION. The words of the block's ports read as instructions, and after it the encoder, both written from
30_encoding.md. Decoding is total and rejects by name. The header of a PLC request is read in a configuration, because its
address and count are configuration values (R99). -/

namespace Sys2Proof

/-- The code of a state (30_encoding.md R100). -/
def stCode : St → BitVec 4
  | .init => 0x0#4
  | .await => 0x1#4
  | .decode => 0x2#4
  | .wrAnalog => 0x3#4
  | .rdOverride => 0x4#4
  | .wrInflags => 0x5#4
  | .wrOutflags => 0x6#4
  | .wrOutflags2 => 0x7#4
  | .rdActuators => 0x8#4
  | .sendReply => 0x9#4
  | .persist => 0xA#4
  | .backoff => 0xB#4
  | .teardown => 0xC#4
  | .halted => 0xD#4
  | .failed => 0xE#4
  | .reserved => 0xF#4

/-- The gateway op code (R99, R102). -/
def opCode : GatewayOp → BitVec 4
  | .writeAnalog => 0x0#4
  | .writeInputFlags => 0x1#4
  | .writeOutputFlags => 0x2#4
  | .writeOutputFlags2 => 0x3#4
  | .readOverrideFlag => 0x4#4
  | .readActuatorCoils => 0x5#4

/-- The operation of a gateway op code; 0x6 to 0xE are reserved and 0xF means none (R102). -/
def opOfCode (c : BitVec 4) : Option GatewayOp :=
  if c = 0x0#4 then some .writeAnalog
  else if c = 0x1#4 then some .writeInputFlags
  else if c = 0x2#4 then some .writeOutputFlags
  else if c = 0x3#4 then some .writeOutputFlags2
  else if c = 0x4#4 then some .readOverrideFlag
  else if c = 0x5#4 then some .readActuatorCoils
  else none

/-- The cause code (R102). -/
def causeCode : Cause → BitVec 2
  | .connectionReset => 0#2
  | .timeout => 1#2
  | .malformed => 2#2
  | .other => 3#2

/-- The cause of a code: every 2-bit code is one (R102). -/
def causeOfCode (c : BitVec 2) : Cause :=
  if c = 0#2 then .connectionReset else if c = 1#2 then .timeout else if c = 2#2 then .malformed else .other

/-- The function code of an operation (R99). The three values come from general knowledge, as the spec says of them
(93 G1): notes/assumptions/15.md, PRESUMED, unsafe only for a claim about the `fc` field. -/
def opFc : GatewayOp → BitVec 8
  | .writeAnalog => 0x10#8
  | .writeInputFlags => 0x0F#8
  | .writeOutputFlags => 0x0F#8
  | .writeOutputFlags2 => 0x0F#8
  | .readOverrideFlag => 0x01#8
  | .readActuatorCoils => 0x01#8

/-- The first cell an operation addresses (R99). With no `OVERRIDE_COIL` given there is no request to encode
(10_state.md R23 refuses the configuration); the 0 written there is read by no rule. -/
def opAddr (cfg : Config) : GatewayOp → BitVec 16
  | .writeAnalog => cfg.analogBase
  | .writeInputFlags => cfg.inflagBase
  | .writeOutputFlags => cfg.outflagBase
  | .writeOutputFlags2 => cfg.outflag2Base
  | .readOverrideFlag => cfg.overrideCoil.getD 0
  | .readActuatorCoils => cfg.actBase

/-- The number of cells an operation moves (20_memory.md R70). -/
def opCells (cfg : Config) : GatewayOp → Nat
  | .writeAnalog => 5
  | .writeInputFlags => 8
  | .writeOutputFlags => 8
  | .writeOutputFlags2 => 6
  | .readOverrideFlag => 1
  | .readActuatorCoils => cfg.actCount

/-- The `cnt` field (R98). -/
def opCnt (cfg : Config) (op : GatewayOp) : BitVec 5 := BitVec.ofNat 5 (opCells cfg op)

/-- The 29-bit request header: H[28:21] = fc, H[20:5] = addr, H[4:0] = cnt (R98). -/
def opHeader (cfg : Config) (op : GatewayOp) : BitVec 29 := opFc op ++ opAddr cfg op ++ opCnt cfg op

/-- A log word from its fields, most significant first: aux1 [31:24], aux0 [23:16], zero [15:10], cause [9:8], op [7:4],
code [3:0] (R101). -/
def logWordOf (aux1 aux0 : Byte) (cause : BitVec 2) (op code : BitVec 4) : BitVec 32 :=
  aux1 ++ aux0 ++ 0#6 ++ cause ++ op ++ code

/-- aux0 of a start-up log: bit 0 = serial link failed, bit 1 = PLC link failed, bits 7:2 = 0 (R101). -/
def startupAux (serFailed plcFailed : Bool) : Byte := 0#6 ++ BitVec.ofBool plcFailed ++ BitVec.ofBool serFailed

/-- The instruction of a state code (R100). -/
def decodeState (c : BitVec 4) : Instr :=
  if c = 0x0#4 then .stInit
  else if c = 0x1#4 then .stAwait
  else if c = 0x2#4 then .stDecode
  else if c = 0x3#4 then .stWrAnalog
  else if c = 0x4#4 then .stRdOverride
  else if c = 0x5#4 then .stWrInflags
  else if c = 0x6#4 then .stWrOutflags
  else if c = 0x7#4 then .stWrOutflags2
  else if c = 0x8#4 then .stRdActuators
  else if c = 0x9#4 then .stSendReply
  else if c = 0xA#4 then .stPersist
  else if c = 0xB#4 then .stBackoff
  else if c = 0xC#4 then .stTeardown
  else if c = 0xD#4 then .stHalted
  else if c = 0xE#4 then .stFailed
  else .stReserved

/-- A group of the receive stream (R91): selected by its length and by byte 0 = 0xAA, mask 0xFF (R92). Its checksum is the
instruction's business: the meaning of FRAME checks it (40_codec.md R135). -/
def decodeGroup : List Byte → Except Reject Instr
  | [s, l1, l2, t, f, p, i, o, x, k] =>
    if s = 0xAA#8 then .ok (.frame l1 l2 t f p i o (x.extractLsb' 6 2) (x.extractLsb' 0 6) k) else .error (.badStartByte s)
  | bs => .error (.badLength bs.length)

/-- A reply on the transmit stream: its leading byte tells its length (R97). -/
def decodeReply : List Byte → Except Reject Instr
  | [a] => if a = 0xFF#8 then .ok .ack else .error (.notAReply [a])
  | [a, f, g] => if a = 0xBB#8 then .ok (.ovr f g) else .error (.notAReply [a, f, g])
  | bs => .error (.notAReply bs)

/-- A request header in a configuration (R99). Two 8-coil writes whose bases are configured equal have equal headers, "told
apart by their position in the cycle": `afterInflags` says that writeInputFlags is the request before this one. -/
def decodeHeader (cfg : Config) (afterInflags : Bool) (h : BitVec 29) : Except Reject Instr :=
  if h = opHeader cfg .writeAnalog then .ok .writeAnalog
  else if h = opHeader cfg .writeInputFlags ∧ ¬(afterInflags = true ∧ cfg.inflagBase = cfg.outflagBase) then .ok .writeInputFlags
  else if h = opHeader cfg .writeOutputFlags then .ok .writeOutputFlags
  else if h = opHeader cfg .writeOutputFlags2 then .ok .writeOutputFlags2
  else if cfg.overrideCoil.isSome = true ∧ h = opHeader cfg .readOverrideFlag then .ok .readOverrideFlag
  else if h = opHeader cfg .readActuatorCoils then .ok .readActuatorCoils
  else .error (.notARequest h)

/-- A log word (R101): its code selects, and every other field must stand as R101 says for that code. -/
def decodeLog (w : BitVec 32) : Except Reject Instr :=
  let code := w.extractLsb' 0 4
  let op := w.extractLsb' 4 4
  let cause := w.extractLsb' 8 2
  let aux0 := w.extractLsb' 16 8
  let aux1 := w.extractLsb' 24 8
  if code = 0x1#4 then
    if w = logWordOf 0 aux0 0 0xF code then .ok (.logBadLength aux0) else .error (.malformedLogWord w)
  else if code = 0x2#4 then
    if w = logWordOf 0 aux0 0 0xF code then .ok (.logBadStartByte aux0) else .error (.malformedLogWord w)
  else if code = 0x3#4 then
    if w = logWordOf aux1 aux0 0 0xF code then .ok (.logChecksumMismatch aux0 aux1) else .error (.malformedLogWord w)
  else if code = 0x4#4 then
    match opOfCode op with
    | some g =>
      if w = logWordOf 0 0 cause op code then .ok (.logGatewayError g (causeOfCode cause)) else .error (.malformedLogWord w)
    | none => .error (.malformedLogWord w)
  else if code = 0x5#4 then
    if w = logWordOf 0 (startupAux (aux0.getLsbD 0) (aux0.getLsbD 1)) 0 0xF code then
      .ok (.logStartupFailure (aux0.getLsbD 0) (aux0.getLsbD 1))
    else .error (.malformedLogWord w)
  else .error (.reservedLogCode code)

/-- The instruction a word of a port stands for, or why it stands for none. -/
def decode (cfg : Config) (afterInflags : Bool) : PortWord → Except Reject Instr
  | .rxGroup bs => decodeGroup bs
  | .txReply bs => decodeReply bs
  | .plcHeader h => decodeHeader cfg afterInflags h
  | .stateCode c => .ok (decodeState c)
  | .logWord w => decodeLog w

/-- The word of an instruction on its port (30_encoding.md R91, R95, R96, R98, R100, R101). -/
def encode (cfg : Config) : Instr → PortWord
  | .frame l1 l2 t f p i o r o2 k => .rxGroup [0xAA#8, l1, l2, t, f, p, i, o, Machine.flag2Byte r o2, k]
  | .ack => .txReply [0xFF#8]
  | .ovr f g => .txReply [0xBB#8, f, g]
  | .writeAnalog => .plcHeader (opHeader cfg .writeAnalog)
  | .writeInputFlags => .plcHeader (opHeader cfg .writeInputFlags)
  | .writeOutputFlags => .plcHeader (opHeader cfg .writeOutputFlags)
  | .writeOutputFlags2 => .plcHeader (opHeader cfg .writeOutputFlags2)
  | .readOverrideFlag => .plcHeader (opHeader cfg .readOverrideFlag)
  | .readActuatorCoils => .plcHeader (opHeader cfg .readActuatorCoils)
  | .stInit => .stateCode 0x0#4
  | .stAwait => .stateCode 0x1#4
  | .stDecode => .stateCode 0x2#4
  | .stWrAnalog => .stateCode 0x3#4
  | .stRdOverride => .stateCode 0x4#4
  | .stWrInflags => .stateCode 0x5#4
  | .stWrOutflags => .stateCode 0x6#4
  | .stWrOutflags2 => .stateCode 0x7#4
  | .stRdActuators => .stateCode 0x8#4
  | .stSendReply => .stateCode 0x9#4
  | .stPersist => .stateCode 0xA#4
  | .stBackoff => .stateCode 0xB#4
  | .stTeardown => .stateCode 0xC#4
  | .stHalted => .stateCode 0xD#4
  | .stFailed => .stateCode 0xE#4
  | .stReserved => .stateCode 0xF#4
  | .logBadLength n => .logWord (logWordOf 0 n 0 0xF 0x1)
  | .logBadStartByte b => .logWord (logWordOf 0 b 0 0xF 0x2)
  | .logChecksumMismatch c r => .logWord (logWordOf r c 0 0xF 0x3)
  | .logGatewayError g c => .logWord (logWordOf 0 0 (causeCode c) (opCode g) 0x4)
  | .logStartupFailure ser plc => .logWord (logWordOf 0 (startupAux ser plc) 0 0xF 0x5)

/-- The bytes of a table word that is written as one number with its first byte on the wire most significant. -/
def bytesOfTable (n w : Nat) : List Byte := (List.range n).map fun j => BitVec.ofNat 8 (w >>> (8 * (n - 1 - j)))

/-- The configuration a table header is read in: the defaults, the override coil and the actuator count taken from the
header itself, since the table's mask leaves the coil's address free and lists the three counts (opcode_table.json). -/
def tableConfig (w : Nat) : Config :=
  let cnt := w % 32
  { Config.withDefaults (BitVec.ofNat 16 (w >>> 5)) with actCount := if cnt = 15 ∨ cnt = 16 then cnt else 14 }

/-- A table log word completed. The table gives a log row its code bits only, so the bits above come as 0; for every code but
0x4, R101 fixes the op field at 0xF. DEDUCED, safe, notes/assumptions/10.md. -/
def completeLog (w : Nat) : Nat := if w < 16 ∧ w ≠ 4 then w + 0xF0 else w

/-- The instruction the decoder reads from a word of spec/opcode_table.json, numbered as the table numbers it. One byte is a
state code, the acknowledge, or else the low byte of a log word; three bytes are a reply; up to 32 bits are a request header, or
else a log word; ten bytes are a frame. DEDUCED, safe, notes/assumptions/10.md. -/
def decodeTableWord (nbits w : Nat) : Option Instr :=
  let read (p : PortWord) : Option Instr :=
    match decode (tableConfig w) false p with
    | .ok i => some i
    | .error _ => none
  if 2 ^ nbits ≤ w then none
  else if nbits ≤ 8 then
    if w < 16 then read (.stateCode (BitVec.ofNat 4 w))
    else
      match read (.txReply [BitVec.ofNat 8 w]) with
      | some i => some i
      | none => read (.logWord (BitVec.ofNat 32 w))
  else if nbits ≤ 24 then read (.txReply (bytesOfTable 3 w))
  else if nbits ≤ 32 then
    match (if w < 2 ^ 29 then read (.plcHeader (BitVec.ofNat 29 w)) else none) with
    | some i => some i
    | none => read (.logWord (BitVec.ofNat 32 (completeLog w)))
  else if nbits ≤ 80 then read (.rxGroup (bytesOfTable 10 w))
  else none

end Sys2Proof
end

