-- ==== Sys2Proof/Machine/State.lean ====
section
/-! DEFINITION. The state of the MiniPlant bridge core as plain data (10_state.md), the reasons a step can stop, the events a
run shows (42_bridge_loop.md R222) and the stimuli the environment brings (30_encoding.md R106). -/

namespace Sys2Proof.Machine

/-- The registers that can hold no value (10_state.md R27 to R31). -/
inductive Reg where
  | frm | level1 | level2 | tds | flow | pressure | inF | outF | outF2 | ovr | act | txb0 | txb1 | txb2
deriving DecidableEq, Repr

/-- The reasons the model stops with a fault. -/
inductive Fault where
  /-- A read of a register that holds no value: "a model fault, not a value" (10_state.md R34, 93 I18). Raised by the
  operations that read a cycle register. Safe: no rule reads one in a state a run reaches. -/
  | noValue (r : Reg)
  /-- `st` holds the reserved code 0xF: "A model that finds `st = 0xF` records a fault and gives no further step"
  (42_bridge_loop.md R216, 93 I17). Raised by ST_RESERVED_STATE. Safe: unreachable from reset. -/
  | reservedState
  /-- `encodeOverride` was given a sequence that is not 16 booleans long (40_codec.md R142). Raised by RD_ACTUATORS on a
  branch no state takes (60_exceptions.md R255). Safe. -/
  | invalidFlagCount (n : Nat)
deriving DecidableEq, Repr

/-- The reasons the model gives no behaviour. -/
inductive Refusal where
  /-- An instruction that has no meaning in this model, by its mnemonic. Raised by no arm of exec now. Safe. -/
  | notModelled (mnemonic : String)
  /-- The configuration is not legal: "A model refuses an illegal configuration: it gives the block no behaviour for it"
  (10_state.md R23, 93 I16). Raised by step, and by the request of an address that is not given. Safe. -/
  | illegalConfiguration
  /-- The word fetched is no instruction, by the decoder's own name for why. Raised by CORE's turn on a branch no state
  takes, since every 4-bit code is a state (30_encoding.md R100). Safe. -/
  | undecodable (r : Reject)
deriving DecidableEq, Repr

/-- The request word of the PLC port (30_encoding.md R98). -/
structure Request where
  fc : BitVec 8
  addr : BitVec 16
  cnt : BitVec 5
  wdata : BitVec 80
deriving DecidableEq, Repr

/-- The response word of the PLC port (R98), every field as the port drives it. -/
structure RspWord where
  ok : Bool
  cause : BitVec 2
  rdata : BitVec 16
deriving DecidableEq, Repr

/-- What a response word says (R98): `cause` counts only for a failure, `rdata` only for a success (93 I3, I4). -/
inductive Response where
  | ok (rdata : BitVec 16)
  | err (cause : Cause)
deriving DecidableEq, Repr

/-- What a PLC operation returns to its caller (41_gateway.md R170 to R176). -/
inductive OpResult where
  /-- `ok` of a write. -/
  | done
  /-- `ok(rdata[0])` of readOverrideFlag: `false` = NORMAL, `true` = OVERRIDE. -/
  | flag (v : Bool)
  /-- `ok(pad16(rdata, ACT_COUNT))` of readActuatorCoils. -/
  | coils (a : BitVec 16)
  /-- `err(GatewayError{op, cause})`. -/
  | gatewayError (op : GatewayOp) (cause : Cause)
deriving DecidableEq, Repr

/-- The two links (20_memory.md R76). -/
inductive Link where
  | serial | plc
deriving DecidableEq, Repr

/-- What a run shows (42_bridge_loop.md R222). -/
inductive Event where
  /-- A byte stored in the receive FIFO. -/
  | rx (b : Byte)
  /-- A byte dropped because the FIFO was full. -/
  | rxdrop (b : Byte)
  | req (r : Request)
  | rsp (r : RspWord)
  | tx (b : Byte)
  /-- A persist record: byte j at bits [8j+7:8j] (30_encoding.md R103). -/
  | pst (record : BitVec 152)
  | log (w : BitVec 32)
  | close (l : Link)
  | shutdown
  | reset
deriving DecidableEq, Repr

/-- One step of the environment, in the terms of 30_encoding.md R106 and the agents of 42_bridge_loop.md R200. -/
inductive Stimulus where
  /-- CORE takes its turn. -/
  | core
  /-- RX delivers a byte. -/
  | rx (b : Byte)
  /-- SHUT pulses `shutdown_req`. -/
  | shutdown
  /-- PLC answers. -/
  | rsp (r : RspWord)
  /-- TXC accepts the offered byte. -/
  | accept
  /-- RST asserts reset. -/
  | reset
  /-- The link inputs take these values (R201). -/
  | link (ser plc : Bool)
  /-- `wallclock` takes this value (R211). -/
  | clock (ts : BitVec 64)
deriving DecidableEq, Repr

/-- The state. An Option field is a register the spec itself gives the condition "no value" (10_state.md R27 to R31, R33,
R34); notes/assumptions/6.md. -/
structure State where
  /-- The configuration registers (R22), read-only. -/
  cfg : Config
  /-- The state register, the block's program counter (R20). -/
  st : St
  /-- The receive FIFO, oldest byte first (R24). -/
  rxq : List Byte
  /-- Sticky overflow flag (R25). -/
  rxOverflow : Bool
  /-- Sticky shutdown flag (R26). -/
  shutdown : Bool
  /-- The frame register (R27). -/
  frm : Option (List Byte)
  /-- The SensorFrame registers (R28). -/
  level1 : Option Byte
  level2 : Option Byte
  tds : Option Byte
  flow : Option Byte
  pressure : Option Byte
  inF : Option Byte
  outF : Option Byte
  outF2 : Option (BitVec 6)
  /-- Frame-valid flag (R28). -/
  fv : Bool
  /-- queriedOverride: `false` = NORMAL, `true` = OVERRIDE (R29). -/
  ovr : Option Bool
  /-- Its valid bit (R29). -/
  ovrV : Bool
  /-- The actuator image (R30). -/
  act : Option (BitVec 16)
  /-- The transmit buffer's three bytes (R31). -/
  txb0 : Option Byte
  txb1 : Option Byte
  txb2 : Option Byte
  /-- Number of valid reply bytes (R31). -/
  txn : Nat
  /-- Number of reply bytes accepted (R31). -/
  txi : Nat
  /-- A request is outstanding (R32). -/
  pend : Bool
  /-- Input `ser_link_ok` (42_bridge_loop.md R201). -/
  serLinkOk : Bool
  /-- Input `plc_link_ok` (R201). -/
  plcLinkOk : Bool
  /-- Input `wallclock` (R211). -/
  wallclock : BitVec 64
  /-- The response port: the word shown in this step, if any (20_memory.md R80 `plc_rsp_*`). -/
  rspIn : Option RspWord
  /-- The MODEL's own: the steps the environment takes next, in order (notes/assumptions/2.md). -/
  sched : List Stimulus
  /-- The MODEL's own: the event history, oldest first (42_bridge_loop.md R222; notes/assumptions/13.md). -/
  events : List Event
  /-- The MODEL's own: what a PLC operation run on its own returned (notes/assumptions/12.md). -/
  ret : Option OpResult
deriving DecidableEq, Repr

/-- The machine right after reset (70_reset_and_hazards.md R280, R281): `st` = INIT, every flag 0, the FIFO empty, the cycle
registers with no value, the configuration at its configured value (10_state.md R22). The inputs are the environment's: free
values until it drives them (notes/assumptions/5.md). Nothing is scheduled and nothing has been seen. -/
def State.reset : State where
  cfg := Config.withDefaults Config.overrideCoilParam
  st := .init
  rxq := []
  rxOverflow := false
  shutdown := false
  frm := none
  level1 := none
  level2 := none
  tds := none
  flow := none
  pressure := none
  inF := none
  outF := none
  outF2 := none
  fv := false
  ovr := none
  ovrV := false
  act := none
  txb0 := none
  txb1 := none
  txb2 := none
  txn := 0
  txi := 0
  pend := false
  serLinkOk := Config.freeSerLink
  plcLinkOk := Config.freePlcLink
  wallclock := Config.freeWallclock
  rspIn := none
  sched := []
  events := []
  ret := none

end Sys2Proof.Machine
end

