-- ==== Sys2Proof/Machine/Flags.lean ====
section
/-! DEFINITION. The boolean flags (10_state.md R36): who sets them, who clears them, and the status outputs they drive (R35).
No flag is written as a side effect of an unrelated operation, so each writer stands here once. -/

namespace Sys2Proof.Machine

/-- RX on a full FIFO: `rx_overflow <- 1` (R25). Only reset clears it. -/
def setRxOverflow (s : State) : State := { s with rxOverflow := true }

/-- SHUT: `shutdown <- 1` (R26). Only reset clears it. -/
def setShutdown (s : State) : State := { s with shutdown := true }

/-- A PLC state issues its request: `pend <- 1` (R32). A response shown before the request is not an answer to it
(20_memory.md R67), and nothing has been returned yet. -/
def setPend (s : State) : State := { s with pend := true, rspIn := none, ret := none }

/-- A PLC state consumes the response: `pend <- 0` (R32). -/
def clearPend (s : State) : State := { s with pend := false, rspIn := none }

/-- RD_OVERRIDE writes the PLC's answer: `ovr <- v`, `ovr_v <- 1` (R29). -/
def setOvr (v : Bool) (s : State) : State := { s with ovr := some v, ovrV := true }

/-- Status output `fsm_state[3:0]` (R35). -/
def fsmState (s : State) : BitVec 4 := stCode s.st

/-- Status output `rx_overflow_o` (R35). -/
def rxOverflowO (s : State) : Bool := s.rxOverflow

/-- The six states that make a PLC call (42_bridge_loop.md R200), and the operation each calls (R204 to R209). -/
def plcOpOf : St → Option GatewayOp
  | .wrAnalog => some .writeAnalog
  | .rdOverride => some .readOverrideFlag
  | .wrInflags => some .writeInputFlags
  | .wrOutflags => some .writeOutputFlags
  | .wrOutflags2 => some .writeOutputFlags2
  | .rdActuators => some .readActuatorCoils
  | .init => none
  | .await => none
  | .decode => none
  | .sendReply => none
  | .persist => none
  | .backoff => none
  | .teardown => none
  | .halted => none
  | .failed => none
  | .reserved => none

/-- The PLC agent is enabled: a request is outstanding (R219) and a PLC state holds on it. `pend = 1` in any other state is
unreachable; no completion part exists there, DESIGN CHOICE, notes/assumptions/8.md. -/
def plcEnabled (s : State) : Bool := s.pend && (plcOpOf s.st).isSome

/-- TXC is enabled: SEND_REPLY with `txi < txn` (R220). -/
def txEnabled (s : State) : Bool := decide (s.st = .sendReply) && decide (s.txi < s.txn)

/-- RX takes bytes in every state but HALTED and FAILED (20_memory.md R63). -/
def rxOpen (s : State) : Bool := !(decide (s.st = .halted) || decide (s.st = .failed))

end Sys2Proof.Machine
end

