-- ==== Sys2Proof/Machine/Operands.lean ====
section
/-! DEFINITION. Where every operand comes from: reading a register that may hold no value (10_state.md R34), assembling the
SensorFrame operands from the frame (30_encoding.md R104), the request of each PLC operation (R98, R99, 41_gateway.md R171 to
R176), the persist record (30_encoding.md R103). -/

namespace Sys2Proof.Machine

/-- Read register `r`, whose content is `v`, and go on with its value; with no value, fault (R34). -/
def readReg {α β : Type} (r : Reg) (v : Option α) (k : α → Host.Outcome β Fault Refusal) : Host.Outcome β Fault Refusal :=
  match v with
  | some x => k x
  | none => .fault (.noValue r)

/-- The reply byte `txb[i]` (R31): its register and what it holds. -/
def txReg (s : State) (i : Nat) : Reg × Option Byte :=
  match i with
  | 0 => (.txb0, s.txb0)
  | 1 => (.txb1, s.txb1)
  | _ => (.txb2, s.txb2)

/-- Write data of writeAnalog: register `ANALOG_BASE + k` gets `wdata[16k+15:16k]` = channel k zero-extended, level1 at k = 0
(41_gateway.md R171, 20_memory.md R66). -/
def analogData (level1 level2 tds flow pressure : Byte) : BitVec 80 :=
  pressure.setWidth 16 ++ flow.setWidth 16 ++ tds.setWidth 16 ++ level2.setWidth 16 ++ level1.setWidth 16

/-- The request of an operation with its write data: the fields of R99. -/
def requestOf (cfg : Config) (op : GatewayOp) (wdata : BitVec 80) : Request :=
  { fc := opFc op, addr := opAddr cfg op, cnt := opCnt cfg op, wdata := wdata }

/-- The request an operation issues from its operands: the SensorFrame registers for the four writes, none for the two reads,
whose write data is 0 (R98). -/
def operandsOf (op : GatewayOp) (s : State) : Host.Outcome Request Fault Refusal :=
  match op with
  | .writeAnalog =>
    readReg .level1 s.level1 fun l1 => readReg .level2 s.level2 fun l2 => readReg .tds s.tds fun t =>
    readReg .flow s.flow fun f => readReg .pressure s.pressure fun p =>
    .next (requestOf s.cfg .writeAnalog (analogData l1 l2 t f p))
  | .writeInputFlags => readReg .inF s.inF fun v => .next (requestOf s.cfg .writeInputFlags (v.setWidth 80))
  | .writeOutputFlags => readReg .outF s.outF fun v => .next (requestOf s.cfg .writeOutputFlags (v.setWidth 80))
  | .writeOutputFlags2 => readReg .outF2 s.outF2 fun v => .next (requestOf s.cfg .writeOutputFlags2 (v.setWidth 80))
  | .readOverrideFlag =>
    match s.cfg.overrideCoil with
    | some _ => .next (requestOf s.cfg .readOverrideFlag 0)
    | none => .refused .illegalConfiguration
  | .readActuatorCoils => .next (requestOf s.cfg .readActuatorCoils 0)

/-- What a response word says (30_encoding.md R98, R102). -/
def responseOf (r : RspWord) : Response := if r.ok then .ok r.rdata else .err (causeOfCode r.cause)

/-- The value of the override read: `rdata[0]`; `rdata[15:1]` is ignored (41_gateway.md R175). -/
def overrideOf (rdata : BitVec 16) : Bool := rdata.getLsbD 0

/-- The image of the actuator read: padded at and above `ACT_COUNT` (R176, 40_codec.md R141). -/
def actuatorsOf (cfg : Config) (rdata : BitVec 16) : BitVec 16 := pad16 rdata cfg.actCount

/-- The flags actually applied, record bytes 9 and 10: the frame's output flags in NORMAL, the PLC's image in OVERRIDE
(30_encoding.md R103). -/
def appliedOf (ovr : Bool) (outF : Byte) (outF2 : BitVec 6) (act : BitVec 16) : BitVec 16 :=
  if ovr then act else outF2.setWidth 8 ++ outF

/-- The persist record, byte 18 first and byte 0 last, so that byte j is at bits [8j+7:8j] (R103). -/
def persistRecord (level1 level2 tds flow pressure inF outF : Byte) (outF2 : BitVec 6) (ovr : Bool) (applied : BitVec 16)
    (ts : BitVec 64) : BitVec 152 :=
  ts ++ applied ++ (0#7 ++ BitVec.ofBool ovr) ++ outF2.setWidth 8 ++ outF ++ inF
    ++ pressure ++ flow ++ tds ++ level2 ++ level1

/-- The record of the current cycle (42_bridge_loop.md R211): the SensorFrame registers, `ovr`, `act` only in an OVERRIDE
cycle, and the wall clock sampled once. -/
def recordOf (s : State) : Host.Outcome (BitVec 152) Fault Refusal :=
  readReg .level1 s.level1 fun l1 => readReg .level2 s.level2 fun l2 => readReg .tds s.tds fun t =>
  readReg .flow s.flow fun f => readReg .pressure s.pressure fun p => readReg .inF s.inF fun i =>
  readReg .outF s.outF fun o => readReg .outF2 s.outF2 fun o2 => readReg .ovr s.ovr fun v =>
  if v then
    readReg .act s.act fun a => .next (persistRecord l1 l2 t f p i o o2 v (appliedOf v o o2 a) s.wallclock)
  else .next (persistRecord l1 l2 t f p i o o2 v (appliedOf v o o2 0) s.wallclock)

end Sys2Proof.Machine
end

