-- ==== Sys2Proof/Machine/Ops.lean ====
section
/-! DEFINITION. The primitives of 00_scope.md R11 (RxPop, TxPush, PlcCall, PersistEmit, LogEmit, Close), the end-of-cycle
invalidation (10_state.md R33), and error entry and return (60_exceptions.md R250, R259, R260), each once. -/

namespace Sys2Proof.Machine

/-- Record an event of the block or of its environment (42_bridge_loop.md R222). -/
def emit (e : Event) (s : State) : State := { s with events := s.events ++ [e] }

/-- `LogEmit(w)` (20_memory.md R75): one log word; it never holds. -/
def logEmit (w : BitVec 32) (s : State) : State := emit (.log w) s

/-- `PersistEmit(rec)` (R74): one record; it never holds and takes no answer. -/
def persistEmit (rec : BitVec 152) (s : State) : State := emit (.pst rec) s

/-- `Close(link)` (R76): one close pulse; it never holds. -/
def closeLink (l : Link) (s : State) : State := emit (.close l) s

/-- `RxPop(n)` (R62): the first n bytes, and the state without them. -/
def rxPop (n : Nat) (s : State) : List Byte × State := (s.rxq.take n, { s with rxq := s.rxq.drop n })

/-- End-of-cycle invalidation (10_state.md R33): the cycle registers hold no value again. `rxq`, `rx_overflow`, `shutdown`
and `pend` are not touched. -/
def invalidate (s : State) : State :=
  { s with
    frm := none, level1 := none, level2 := none, tds := none, flow := none, pressure := none
    inF := none, outF := none, outF2 := none, ovr := none, act := none
    txb0 := none, txb1 := none, txb2 := none
    fv := false, ovrV := false, txn := 0, txi := 0 }

/-- A transition into AWAIT: every one invalidates (R33). It is the return of every error that returns (R260). -/
def enterAwait (s : State) : State := { invalidate s with st := .await }

/-- The errors of the block that have a log code (60_exceptions.md R250). -/
inductive BlockError where
  /-- A framing error of DECODE. -/
  | framing (e : DecodeError)
  /-- A failure response to a PLC request. -/
  | gateway (op : GatewayOp) (cause : Cause)
  /-- A link that is not up in INIT. -/
  | startup (serFailed plcFailed : Bool)
deriving DecidableEq, Repr

/-- The log word of an error (30_encoding.md R101). -/
def errorWord : BlockError → BitVec 32
  | .framing (.badLength n) => logWordOf 0 (BitVec.ofNat 8 n) 0 0xF 0x1
  | .framing (.badStartByte b) => logWordOf 0 b 0 0xF 0x2
  | .framing (.checksumMismatch c r) => logWordOf r c 0 0xF 0x3
  | .gateway op cause => logWordOf 0 0 (causeCode cause) (opCode op) 0x4
  | .startup ser plc => logWordOf 0 (startupAux ser plc) 0 0xF 0x5

/-- Error entry, the one exception entry of this block (60_exceptions.md R250, R259): the log word is all that is saved, and
control goes to the error's next state. A framing error returns to AWAIT at once, and entering AWAIT invalidates; a gateway
error goes to BACKOFF; a start-up failure to FAILED. -/
def takeError (e : BlockError) (s : State) : State :=
  match e with
  | .framing _ => enterAwait (logEmit (errorWord e) s)
  | .gateway _ _ => { logEmit (errorWord e) s with st := .backoff }
  | .startup _ _ => { logEmit (errorWord e) s with st := .failed }

/-- Decode a popped group of bytes (42_bridge_loop.md R203): latch it in `frm`, run the codec, and either write the
SensorFrame registers and go to WR_ANALOG, or take the framing error. -/
def decodeBytes (bs : List Byte) (s : State) : State :=
  match codecDecode bs with
  | .error e => takeError (.framing e) { s with frm := some bs }
  | .ok f =>
    { s with
      frm := some bs
      level1 := some f.level1, level2 := some f.level2, tds := some f.tds, flow := some f.flow, pressure := some f.pressure
      inF := some (byteAt bs 6), outF := some (byteAt bs 7), outF2 := some (lowSix (byteAt bs 8))
      fv := true, st := .wrAnalog }

/-- Put a reply into the transmit buffer and go to SEND_REPLY (R208, R209): `txb[k]` is written for the reply's bytes only,
so an acknowledge writes `txb[0]` alone (notes/assumptions/19.md, DEDUCED, safe). -/
def loadReply (bs : List Byte) (s : State) : State :=
  { s with
    txb0 := bs[0]? <|> s.txb0, txb1 := bs[1]? <|> s.txb1, txb2 := bs[2]? <|> s.txb2
    txn := bs.length, txi := 0, st := .sendReply }

/-- How far a PLC call has come (20_memory.md R67). -/
inductive CallStep where
  /-- The request was issued in this step, or the call holds for its response. -/
  | waiting (s : State)
  /-- The response has arrived and `pend` is clear. -/
  | returned (r : Response) (s : State)
deriving DecidableEq, Repr

/-- `PlcCall` (R67; 42_bridge_loop.md R200): with `pend = 0` it emits the request and sets `pend`; with `pend = 1` it holds
until a response is shown, and then clears `pend` and returns what the response says. Operands are read when the request is
issued. -/
def plcCall (op : GatewayOp) (s : State) : Host.Outcome CallStep Fault Refusal :=
  if s.pend then
    match s.rspIn with
    | none => .next (.waiting s)
    | some r => .next (.returned (responseOf r) (clearPend s))
  else
    match operandsOf op s with
    | .next rq => .next (.waiting (setPend (emit (.req rq) s)))
    | .fault f => .fault f
    | .refused r => .refused r

/-- A PLC operation run on its own (41_gateway.md R170): what it returns goes to `ret`; on an error it returns GatewayError
and decides nothing more. -/
def runOperation (op : GatewayOp) (value : Config → BitVec 16 → OpResult) (s : State) : Host.Outcome State Fault Refusal :=
  match plcCall op s with
  | .next (.waiting s') => .next s'
  | .next (.returned (.ok d) s') => .next { s' with ret := some (value s'.cfg d) }
  | .next (.returned (.err c) s') => .next { s' with ret := some (.gatewayError op c) }
  | .fault f => .fault f
  | .refused r => .refused r

/-- A PLC state (42_bridge_loop.md R204 to R209): its operation, then `onOk` on a success, error entry on a failure. -/
def runPlcState (op : GatewayOp) (onOk : BitVec 16 → State → Host.Outcome State Fault Refusal) (s : State) :
    Host.Outcome State Fault Refusal :=
  match plcCall op s with
  | .next (.waiting s') => .next s'
  | .next (.returned (.ok d) s') => onOk d s'
  | .next (.returned (.err c) s') => .next (takeError (.gateway op c) s')
  | .fault f => .fault f
  | .refused r => .refused r

/-- CORE has no step (R200: it holds): the state stays as it is. DESIGN CHOICE, safe, notes/assumptions/3.md. -/
def hold (s : State) : Host.Outcome State Fault Refusal := .next s

/-- The byte offered on the transmit port in SEND_REPLY (`TxPush`, 20_memory.md R64; R210). -/
def offered (s : State) : Host.Outcome Byte Fault Refusal := readReg (txReg s s.txi).1 (txReg s s.txi).2 .next

end Sys2Proof.Machine
end

