-- ==== Sys2Proof/Machine/BridgeLoop.lean ====
section
/-! DEFINITION. The sixteen states of BridgeLoop as instructions (42_bridge_loop.md R201 to R216): what CORE does in one
step there. -/

namespace Sys2Proof.Machine

/-- INIT (R201): both links up, enter the loop; else one STARTUP_FAILURE log word and FAILED. -/
def execStInit (s : State) : Host.Outcome State Fault Refusal :=
  .next (if s.serLinkOk && s.plcLinkOk then enterAwait s else takeError (.startup (!s.serLinkOk) (!s.plcLinkOk)) s)

/-- AWAIT (R202): a set `shutdown` wins over a ready frame; with neither, hold. -/
def execStAwait (s : State) : Host.Outcome State Fault Refusal :=
  if s.shutdown then .next { s with st := .teardown }
  else if 10 ≤ s.rxq.length then .next { s with st := .decode }
  else hold s

/-- DECODE (R203): pop ten bytes and decode them. The bytes are consumed whatever the outcome. With fewer than ten buffered,
which no run reaches, the pop takes what there is and R203's BadLength arm runs: DESIGN CHOICE, unsafe only there,
notes/assumptions/7.md. -/
def execStDecode (s : State) : Host.Outcome State Fault Refusal :=
  let popped := rxPop 10 s
  .next (decodeBytes popped.1 popped.2)

/-- WR_ANALOG (R204): unconditional, before the override query. -/
def execStWrAnalog (s : State) : Host.Outcome State Fault Refusal :=
  runPlcState .writeAnalog (fun _ s' => .next { s' with st := .rdOverride }) s

/-- RD_OVERRIDE (R205): the cycle's only query of the override coil; its value selects the rest of the cycle. -/
def execStRdOverride (s : State) : Host.Outcome State Fault Refusal :=
  runPlcState .readOverrideFlag
    (fun d s' => .next { setOvr (overrideOf d) s' with st := if overrideOf d then .rdActuators else .wrInflags }) s

/-- WR_INFLAGS (R206). -/
def execStWrInflags (s : State) : Host.Outcome State Fault Refusal :=
  runPlcState .writeInputFlags (fun _ s' => .next { s' with st := .wrOutflags }) s

/-- WR_OUTFLAGS (R207). -/
def execStWrOutflags (s : State) : Host.Outcome State Fault Refusal :=
  runPlcState .writeOutputFlags (fun _ s' => .next { s' with st := .wrOutflags2 }) s

/-- WR_OUTFLAGS2 (R208): after the third flag write the acknowledge is prepared. -/
def execStWrOutflags2 (s : State) : Host.Outcome State Fault Refusal :=
  runPlcState .writeOutputFlags2 (fun _ s' => .next (loadReply encodeAck s')) s

/-- RD_ACTUATORS (R209): the padded image, and the override reply that packs it. -/
def execStRdActuators (s : State) : Host.Outcome State Fault Refusal :=
  runPlcState .readActuatorCoils
    (fun d s' =>
      match encodeOverride (coilsOf (actuatorsOf s'.cfg d)) with
      | .ok bs => .next (loadReply bs { s' with act := some (actuatorsOf s'.cfg d) })
      | .error (.invalidFlagCount n) => .fault (.invalidFlagCount n)) s

/-- SEND_REPLY (R210): while bytes are left, offer the next one and hold; when all are accepted, PERSIST. -/
def execStSendReply (s : State) : Host.Outcome State Fault Refusal :=
  if s.txi < s.txn then
    match offered s with
    | .next _ => hold s
    | .fault f => .fault f
    | .refused r => .refused r
  else if s.txi = s.txn then .next { s with st := .persist }
  else hold s

/-- PERSIST (R211): sample the clock once, emit the record, end the cycle. -/
def execStPersist (s : State) : Host.Outcome State Fault Refusal :=
  match recordOf s with
  | .next rec => .next (enterAwait (persistEmit rec s))
  | .fault f => .fault f
  | .refused r => .refused r

/-- BACKOFF (R212): when its hold ends, back to AWAIT with nothing replayed. CORE's turn is the moment the hold ends. -/
def execStBackoff (s : State) : Host.Outcome State Fault Refusal := .next (enterAwait s)

/-- TEARDOWN (R213): close serial, then plc, then HALTED. -/
def execStTeardown (s : State) : Host.Outcome State Fault Refusal :=
  .next { closeLink .plc (closeLink .serial s) with st := .halted }

/-- HALTED (R214): terminal. -/
def execStHalted (s : State) : Host.Outcome State Fault Refusal := hold s

/-- FAILED (R215): terminal, as for HALTED. -/
def execStFailed (s : State) : Host.Outcome State Fault Refusal := hold s

/-- The reserved code 0xF (R216): "A model that finds `st = 0xF` records a fault and gives no further step." -/
def execStReserved (_s : State) : Host.Outcome State Fault Refusal := .fault .reservedState

end Sys2Proof.Machine
end

