-- ==== Sys2Proof/Machine/Frames.lean ====
section
/-! DEFINITION. The serial frames as instructions: FRAME (40_codec.md R132), ACK (R143), OVR (R142). Each does what the state
that performs it does with it: DECODE (42_bridge_loop.md R203), WR_OUTFLAGS2 (R208), RD_ACTUATORS (R209);
notes/assumptions/1.md. -/

namespace Sys2Proof.Machine

/-- FRAME: decode the ten bytes of this frame. Its checksum is checked here, so a frame with a wrong one takes the
ChecksumMismatch error (R135). -/
def execFrame (level1 level2 tds flow pressure inputFlags outputFlags : Byte) (rsv : BitVec 2) (outputFlags2 : BitVec 6)
    (checksum : Byte) (s : State) : Host.Outcome State Fault Refusal :=
  .next (decodeBytes
    [0xAA#8, level1, level2, tds, flow, pressure, inputFlags, outputFlags, flag2Byte rsv outputFlags2, checksum] s)

/-- ACK: the one-byte acknowledge goes into the transmit buffer (R143, R208). -/
def execAck (s : State) : Host.Outcome State Fault Refusal := .next (loadReply encodeAck s)

/-- OVR: the 16 booleans of flagOne and flagTwo are packed into the three-byte reply [0xBB, flagOne, flagTwo], which goes into
the transmit buffer (R142, R209). Only RD_ACTUATORS writes `act` (10_state.md R30). -/
def execOvr (flagOne flagTwo : Byte) (s : State) : Host.Outcome State Fault Refusal :=
  match encodeOverride (unpack16 flagOne flagTwo) with
  | .ok bs => .next (loadReply bs s)
  | .error (.invalidFlagCount n) => .fault (.invalidFlagCount n)

end Sys2Proof.Machine
end

