-- ==== Sys2Proof/Machine/Gateway.lean ====
section
/-! DEFINITION. The six PLC port operations as instructions (41_gateway.md): one blocking exchange each (R170). With
`pend = 0` the request goes out; with `pend = 1` the call holds, or returns what the response says. -/

namespace Sys2Proof.Machine

/-- writeAnalog (R171). -/
def execWriteAnalog (s : State) : Host.Outcome State Fault Refusal := runOperation .writeAnalog (fun _ _ => .done) s

/-- writeInputFlags (R172). -/
def execWriteInputFlags (s : State) : Host.Outcome State Fault Refusal := runOperation .writeInputFlags (fun _ _ => .done) s

/-- writeOutputFlags (R173). -/
def execWriteOutputFlags (s : State) : Host.Outcome State Fault Refusal := runOperation .writeOutputFlags (fun _ _ => .done) s

/-- writeOutputFlags2 (R174). -/
def execWriteOutputFlags2 (s : State) : Host.Outcome State Fault Refusal :=
  runOperation .writeOutputFlags2 (fun _ _ => .done) s

/-- readOverrideFlag, OverrideArbiter.query() (R175): returns `rdata[0]`. The arbiter holds no register (R177). -/
def execReadOverrideFlag (s : State) : Host.Outcome State Fault Refusal :=
  runOperation .readOverrideFlag (fun _ d => .flag (overrideOf d)) s

/-- readActuatorCoils (R176): returns the padded image. -/
def execReadActuatorCoils (s : State) : Host.Outcome State Fault Refusal :=
  runOperation .readActuatorCoils (fun cfg d => .coils (actuatorsOf cfg d)) s

end Sys2Proof.Machine
end

