-- ==== Sys2Proof/Machine/Logs.lean ====
section
/-! DEFINITION. The five log codes as instructions: the event each reports, taken by error entry (60_exceptions.md R250,
R259), which emits the word and changes control as R250's next-state column says. -/

namespace Sys2Proof.Machine

/-- LOG_BAD_LENGTH (R133, R251): aux0 = the length; to AWAIT. "never emitted by the block". -/
def execLogBadLength (len : Byte) (s : State) : Host.Outcome State Fault Refusal :=
  .next (takeError (.framing (.badLength len.toNat)) s)

/-- LOG_BAD_START_BYTE (R134, R251): aux0 = byte 0; to AWAIT. -/
def execLogBadStartByte (start : Byte) (s : State) : Host.Outcome State Fault Refusal :=
  .next (takeError (.framing (.badStartByte start)) s)

/-- LOG_CHECKSUM_MISMATCH (R135, R251): aux0 = the computed fold, aux1 = the received checksum; to AWAIT. -/
def execLogChecksumMismatch (computed received : Byte) (s : State) : Host.Outcome State Fault Refusal :=
  .next (takeError (.framing (.checksumMismatch computed received)) s)

/-- LOG_GATEWAY_ERROR (R252): op and cause; to BACKOFF. -/
def execLogGatewayError (op : GatewayOp) (cause : Cause) (s : State) : Host.Outcome State Fault Refusal :=
  .next (takeError (.gateway op cause) s)

/-- LOG_STARTUP_FAILURE (R253): which links failed; to FAILED. -/
def execLogStartupFailure (serFailed plcFailed : Bool) (s : State) : Host.Outcome State Fault Refusal :=
  .next (takeError (.startup serFailed plcFailed) s)

end Sys2Proof.Machine
end

