-- ==== Sys2Proof/Machine/Dispatch.lean ====
section
/-! DEFINITION. exec: one arm per instruction of the opcode table, each one direct call of its meaning. -/

namespace Sys2Proof.Machine

def exec (i : Instr) (s : State) : Host.Outcome State Fault Refusal :=
  match i with
  | .frame a b c d e i2 o r p k => Sys2Proof.Machine.execFrame a b c d e i2 o r p k s
  | .ack => Sys2Proof.Machine.execAck s
  | .ovr f g => Sys2Proof.Machine.execOvr f g s
  | .writeAnalog => Sys2Proof.Machine.execWriteAnalog s
  | .writeInputFlags => Sys2Proof.Machine.execWriteInputFlags s
  | .writeOutputFlags => Sys2Proof.Machine.execWriteOutputFlags s
  | .writeOutputFlags2 => Sys2Proof.Machine.execWriteOutputFlags2 s
  | .readOverrideFlag => Sys2Proof.Machine.execReadOverrideFlag s
  | .readActuatorCoils => Sys2Proof.Machine.execReadActuatorCoils s
  | .stInit => Sys2Proof.Machine.execStInit s
  | .stAwait => Sys2Proof.Machine.execStAwait s
  | .stDecode => Sys2Proof.Machine.execStDecode s
  | .stWrAnalog => Sys2Proof.Machine.execStWrAnalog s
  | .stRdOverride => Sys2Proof.Machine.execStRdOverride s
  | .stWrInflags => Sys2Proof.Machine.execStWrInflags s
  | .stWrOutflags => Sys2Proof.Machine.execStWrOutflags s
  | .stWrOutflags2 => Sys2Proof.Machine.execStWrOutflags2 s
  | .stRdActuators => Sys2Proof.Machine.execStRdActuators s
  | .stSendReply => Sys2Proof.Machine.execStSendReply s
  | .stPersist => Sys2Proof.Machine.execStPersist s
  | .stBackoff => Sys2Proof.Machine.execStBackoff s
  | .stTeardown => Sys2Proof.Machine.execStTeardown s
  | .stHalted => Sys2Proof.Machine.execStHalted s
  | .stFailed => Sys2Proof.Machine.execStFailed s
  | .stReserved => Sys2Proof.Machine.execStReserved s
  | .logBadLength n => Sys2Proof.Machine.execLogBadLength n s
  | .logBadStartByte b => Sys2Proof.Machine.execLogBadStartByte b s
  | .logChecksumMismatch c r => Sys2Proof.Machine.execLogChecksumMismatch c r s
  | .logGatewayError op c => Sys2Proof.Machine.execLogGatewayError op c s
  | .logStartupFailure ser plc => Sys2Proof.Machine.execLogStartupFailure ser plc s

end Sys2Proof.Machine
end

