-- ==== Sys2Proof/Machine/Agents.lean ====
section
/-! DEFINITION. The agents of 42_bridge_loop.md R200 and whose turn it is: what CORE fetches and runs, what each other agent's
stimulus does, and reset. Step.lean only calls these. -/

namespace Sys2Proof.Machine

/-- The word CORE fetches: the code in `st`, the block's program counter (10_state.md R20). -/
def fetchWord (s : State) : PortWord := .stateCode (stCode s.st)

/-- CORE's turn: fetch, decode, run. -/
def runCore (s : State) : Host.Outcome State Fault Refusal :=
  match decode s.cfg false (fetchWord s) with
  | .ok i => exec i s
  | .error r => .refused (.undecodable r)

/-- RX (20_memory.md R63): a byte is stored, or dropped with `rx_overflow` set when the FIFO is full; in HALTED and FAILED it is
ignored and leaves no event (notes/assumptions/25.md, DEDUCED, safe). -/
def rxByte (b : Byte) (s : State) : State :=
  if rxOpen s then
    if s.rxq.length < s.cfg.rxDepth then emit (.rx b) { s with rxq := s.rxq ++ [b] }
    else emit (.rxdrop b) (setRxOverflow s)
  else s

/-- SHUT (R218): the sticky flag, in any state, and nothing else. -/
def shutdownPulse (s : State) : State := emit .shutdown (setShutdown s)

/-- PLC (R219): the response is shown and the completion part of the current PLC state runs in the same step. A response with
no request outstanding is ignored and is no event (20_memory.md R67, 93 I23). -/
def plcRespond (r : RspWord) (s : State) : Host.Outcome State Fault Refusal :=
  if plcEnabled s then runCore (emit (.rsp r) { s with rspIn := some r }) else .next s

/-- TXC (R220): accept `txb[txi]`. When nothing is offered there is nothing to accept (notes/assumptions/9.md, DESIGN CHOICE,
safe). -/
def txAccept (s : State) : Host.Outcome State Fault Refusal :=
  if txEnabled s then
    match offered s with
    | .next b => .next (emit (.tx b) { s with txi := s.txi + 1 })
    | .fault f => .fault f
    | .refused r => .refused r
  else .next s

/-- RST (70_reset_and_hazards.md R280): every register to its reset value, the configuration unchanged, an outstanding request
and a half-sent reply abandoned. The inputs are the environment's and keep their values; the history goes on. -/
def resetBlock (s : State) : State :=
  emit .reset { State.reset with
    cfg := s.cfg, serLinkOk := s.serLinkOk, plcLinkOk := s.plcLinkOk, wallclock := s.wallclock, sched := s.sched
    events := s.events }

/-- What a stimulus does. -/
def stimulate (e : Stimulus) (s : State) : Host.Outcome State Fault Refusal :=
  match e with
  | .core => runCore s
  | .rx b => .next (rxByte b s)
  | .shutdown => .next (shutdownPulse s)
  | .rsp r => plcRespond r s
  | .accept => txAccept s
  | .reset => .next (resetBlock s)
  | .link ser plc => .next { s with serLinkOk := ser, plcLinkOk := plc }
  | .clock ts => .next { s with wallclock := ts }

/-- Whose turn it is: the first scheduled stimulus, or CORE when nothing is scheduled (notes/assumptions/2.md). A reset
overrides everything (R280); any other turn that finds the reserved code gives its fault and no step (R216). -/
def turn (s : State) : Host.Outcome State Fault Refusal :=
  match s.sched with
  | [] => runCore s
  | e :: rest =>
    if s.st = .reserved ∧ e ≠ .reset then runCore s
    else stimulate e { s with sched := rest }

end Sys2Proof.Machine
end

