-- ==== Sys2Proof/Machine/Placement.lean ====
section
/-! DEFINITION. How the very next step is made to run a given instruction. The block fetches nothing from memory (20_memory.md
R78): CORE runs the state in `st`, and the other operations run inside a state. So an instruction is placed by putting the
block into the state that performs it, with the inputs that make it perform exactly that one; notes/assumptions/11.md. -/

namespace Sys2Proof.Machine

/-- The cycle registers hold a value: the ones the states after DECODE read and a good frame would have written. A register
that holds a value keeps it. -/
def primeCycle (s : State) : State :=
  { s with
    level1 := s.level1 <|> some 0, level2 := s.level2 <|> some 0, tds := s.tds <|> some 0, flow := s.flow <|> some 0
    pressure := s.pressure <|> some 0, inF := s.inF <|> some 0, outF := s.outF <|> some 0, outF2 := s.outF2 <|> some 0
    ovr := s.ovr <|> some false, act := s.act <|> some 0 }

/-- CORE takes the next turn in state `st`, with no request outstanding. -/
def placeState (st : St) (s : State) : State :=
  { primeCycle s with st := st, pend := false, rspIn := none, sched := .core :: s.sched }

/-- The next turn is the response `r` to the request of state `st`. -/
def placeResponse (st : St) (r : RspWord) (s : State) : State :=
  { s with st := st, pend := true, rspIn := none, sched := .rsp r :: s.sched }

/-- The next turn is DECODE, with `bs` at the head of the FIFO. -/
def placeBytes (bs : List Byte) (s : State) : State :=
  { s with st := .decode, rxq := bs ++ s.rxq, sched := .core :: s.sched }

/-- The PLC state whose operation this is. -/
def stOfOp : GatewayOp → St
  | .writeAnalog => .wrAnalog
  | .writeInputFlags => .wrInflags
  | .writeOutputFlags => .wrOutflags
  | .writeOutputFlags2 => .wrOutflags2
  | .readOverrideFlag => .rdOverride
  | .readActuatorCoils => .rdActuators

/-- The configuration in which a header's address and count are the ones the operation uses. -/
def configFor (op : GatewayOp) (h : BitVec 29) (c : Config) : Config :=
  let addr : BitVec 16 := h.extractLsb' 5 16
  match op with
  | .writeAnalog => { c with analogBase := addr }
  | .writeInputFlags => { c with inflagBase := addr }
  | .writeOutputFlags => { c with outflagBase := addr }
  | .writeOutputFlags2 => { c with outflag2Base := addr }
  | .readOverrideFlag => { c with overrideCoil := some addr }
  | .readActuatorCoils => { c with actBase := addr, actCount := (h.extractLsb' 0 5).toNat }

/-- The configuration in which the padded image of these two bytes is they themselves: the present one, or one that reads 16
coils. -/
def configForImage (a : BitVec 16) (c : Config) : Config :=
  if pad16 a c.actCount = a then c else { c with actBase := 0, actCount := 16 }

/-- The next step runs instruction `i`; `h` is the header it came with, when it is a PLC operation. A BAD_LENGTH of 10 or more
cannot be placed: DECODE never pops more than ten bytes (60_exceptions.md R251). -/
def placeInstr (i : Instr) (h : BitVec 29) (s : State) : State :=
  match i with
  | .frame l1 l2 t f p ifl ofl r o2 k => placeBytes [0xAA#8, l1, l2, t, f, p, ifl, ofl, flag2Byte r o2, k] s
  | .ack => placeResponse .wrOutflags2 ⟨true, 0, 0⟩ s
  | .ovr f g => placeResponse .rdActuators ⟨true, 0, g ++ f⟩ { s with cfg := configForImage (g ++ f) s.cfg }
  | .writeAnalog => placeState .wrAnalog { s with cfg := configFor .writeAnalog h s.cfg }
  | .writeInputFlags => placeState .wrInflags { s with cfg := configFor .writeInputFlags h s.cfg }
  | .writeOutputFlags => placeState .wrOutflags { s with cfg := configFor .writeOutputFlags h s.cfg }
  | .writeOutputFlags2 => placeState .wrOutflags2 { s with cfg := configFor .writeOutputFlags2 h s.cfg }
  | .readOverrideFlag => placeState .rdOverride { s with cfg := configFor .readOverrideFlag h s.cfg }
  | .readActuatorCoils => placeState .rdActuators { s with cfg := configFor .readActuatorCoils h s.cfg }
  | .stInit => placeState .init s
  | .stAwait => placeState .await s
  | .stDecode =>
    if 10 ≤ s.rxq.length then placeState .decode s
    else placeBytes [0xAA#8, 0, 0, 0, 0, 0, 0, 0, 0, 0xAA#8] s
  | .stWrAnalog => placeState .wrAnalog s
  | .stRdOverride => placeState .rdOverride s
  | .stWrInflags => placeState .wrInflags s
  | .stWrOutflags => placeState .wrOutflags s
  | .stWrOutflags2 => placeState .wrOutflags2 s
  | .stRdActuators => placeState .rdActuators s
  | .stSendReply => placeState .sendReply s
  | .stPersist => placeState .persist s
  | .stBackoff => placeState .backoff s
  | .stTeardown => placeState .teardown s
  | .stHalted => placeState .halted s
  | .stFailed => placeState .failed s
  | .stReserved => placeState .reserved s
  | .logBadLength n => placeBytes (List.replicate n.toNat 0) { s with rxq := [] }
  | .logBadStartByte b => placeBytes [b, 0, 0, 0, 0, 0, 0, 0, 0, 0] s
  | .logChecksumMismatch c r => placeBytes [0xAA#8, c ^^^ 0xAA#8, 0, 0, 0, 0, 0, 0, 0, r] s
  | .logGatewayError op c => placeResponse (stOfOp op) ⟨false, causeCode c, 0⟩ s
  | .logStartupFailure ser plc => { placeState .init s with serLinkOk := !ser, plcLinkOk := !plc }

end Sys2Proof.Machine
end

