-- ==== Sys2Proof/Machine/Step.lean ====
section
/-! DEFINITION. One step of the machine, and placing a word where the next step runs it. -/

namespace Sys2Proof.Machine

/-- One step: the turn of whoever is next, in a legal configuration; an illegal one is refused (10_state.md R23). -/
def step (s : State) : Host.Outcome State Fault Refusal :=
  if cfgLegal s.cfg then turn s else .refused .illegalConfiguration

/-- `s` with the instruction of a table word placed where the next step runs it (notes/assumptions/11.md); `s` itself when the
word is no instruction. -/
def State.withFetchWord (s : State) (nbits w : Nat) : State :=
  match decodeTableWord nbits w with
  | some i => placeInstr i (BitVec.ofNat 29 w) s
  | none => s

end Sys2Proof.Machine
end

