-- ==== Sys2Proof/Machine/PlcImage.lean ====
section
/-! DEFINITION. What the block's requests mean to the PLC's two address spaces (20_memory.md R60, R68) and the reference
oracle of R79. The PLC's memory is not state of the block (10_state.md R38): these are functions of the requests and of the
event history, and no rule of the block reads them. -/

namespace Sys2Proof.Machine

/-- Cell `a` lies in the range a request addresses. -/
def inRange (r : Request) (a : Nat) : Bool := decide (r.addr.toNat ≤ a) && decide (a < r.addr.toNat + r.cnt.toNat)

/-- What holding register `a` receives from a request: `wdata[16k+15:16k]` for `a = addr + k` of a register write (R68). -/
def registerWritten (r : Request) (a : Nat) : Option (BitVec 16) :=
  if r.fc = 0x10#8 ∧ inRange r a = true then some (r.wdata.extractLsb' (16 * (a - r.addr.toNat)) 16) else none

/-- What coil `a` receives from a request: `wdata[k]` for `a = addr + k` of a coil write (R68). -/
def coilWritten (r : Request) (a : Nat) : Option Bool :=
  if r.fc = 0x0F#8 ∧ inRange r a = true then some (r.wdata.getLsbD (a - r.addr.toNat)) else none

/-- What a successful read says of coil `a`: `rdata[k]` for `a = addr + k` (R68). -/
def coilRead (r : Request) (rdata : BitVec 16) (a : Nat) : Option Bool :=
  if r.fc = 0x01#8 ∧ inRange r a = true then some (rdata.getLsbD (a - r.addr.toNat)) else none

/-- The oracle's view of one coil while it walks a history: the outstanding request, and the coil's value. -/
structure CoilView where
  outstanding : Option Request
  value : Bool
deriving DecidableEq, Repr

/-- One event seen by the oracle for coil `a`. A write counts when it is answered ok: DESIGN CHOICE, safe for the block (no
rule depends on it), notes/assumptions/17.md. -/
def CoilView.see (a : Nat) (v : CoilView) (e : Event) : CoilView :=
  match e with
  | .req r => { v with outstanding := some r }
  | .rsp w =>
    match v.outstanding with
    | some r => { outstanding := none, value := if w.ok then (coilWritten r a).getD v.value else v.value }
    | none => v
  | .reset => { v with outstanding := none }
  | .rx _ => v
  | .rxdrop _ => v
  | .tx _ => v
  | .pst _ => v
  | .log _ => v
  | .close _ => v
  | .shutdown => v

/-- The reference oracle (R79): the value of the block's last write to coil `a`, or the stated initial value. -/
def oracleCoil (initial : Bool) (history : List Event) (a : Nat) : Bool :=
  (history.foldl (CoilView.see a) { outstanding := none, value := initial }).value

end Sys2Proof.Machine
end

