-- ==== Sys2Proof/Safety.lean ====
section
/-! DEFINITION. What a safe state and a safe run are, in the terms the statements use: the invariant of the block, what a step
adds to the history, and the fields of the words it emits. -/

namespace Sys2Proof.Safety

open Sys2Proof.Machine

/-- Every cycle register holds no value (10_state.md R33). -/
def CycleCleared (s : State) : Prop :=
  s.frm = none ∧ s.level1 = none ∧ s.level2 = none ∧ s.tds = none ∧ s.flow = none ∧ s.pressure = none ∧ s.inF = none
    ∧ s.outF = none ∧ s.outF2 = none ∧ s.fv = false ∧ s.ovr = none ∧ s.ovrV = false ∧ s.act = none
    ∧ s.txb0 = none ∧ s.txb1 = none ∧ s.txb2 = none ∧ s.txn = 0 ∧ s.txi = 0

/-- The SensorFrame registers hold the output of a successful decode of `frm` (10_state.md R28: "a SensorFrame exists only as
the output of a successful decode"). -/
def FrameHeld (s : State) : Prop :=
  ∃ bs f, s.frm = some bs ∧ codecDecode bs = .ok f ∧ s.level1 = some f.level1 ∧ s.level2 = some f.level2 ∧ s.tds = some f.tds
    ∧ s.flow = some f.flow ∧ s.pressure = some f.pressure ∧ s.inF = some (byteAt bs 6) ∧ s.outF = some (byteAt bs 7)
    ∧ s.outF2 = some (lowSix (byteAt bs 8)) ∧ s.fv = true

/-- The cycle has not queried the override coil yet. -/
def ModeUnknown (s : State) : Prop := s.ovr = none ∧ s.ovrV = false

/-- The cycle's one query answered `v` (60_exceptions.md R262). -/
def ModeIs (v : Bool) (s : State) : Prop := s.ovr = some v ∧ s.ovrV = true

/-- No reply is prepared. -/
def NoReply (s : State) : Prop := s.txb0 = none ∧ s.txb1 = none ∧ s.txb2 = none ∧ s.txn = 0 ∧ s.txi = 0

/-- The acknowledge of a NORMAL cycle is prepared (42_bridge_loop.md R208). -/
def AckReady (s : State) : Prop := ModeIs false s ∧ s.act = none ∧ s.txb0 = some 0xFF#8 ∧ s.txn = 1

/-- The override reply of an OVERRIDE cycle is prepared, and packs the padded image (R209, 40_codec.md R141, R142). -/
def OverrideReady (s : State) : Prop :=
  ModeIs true s ∧ ∃ a : BitVec 16, s.act = some a ∧ (∀ k, s.cfg.actCount ≤ k → a.getLsbD k = false) ∧ s.txb0 = some 0xBB#8
    ∧ s.txb1 = some (a.extractLsb' 0 8) ∧ s.txb2 = some (a.extractLsb' 8 8) ∧ s.txn = 3

/-- What the registers hold in each state of the cycle (42_bridge_loop.md R201 to R216). -/
def PhaseOk (s : State) : Prop :=
  match s.st with
  | .init => CycleCleared s
  | .await => CycleCleared s
  | .decode => CycleCleared s ∧ 10 ≤ s.rxq.length
  | .wrAnalog => FrameHeld s ∧ ModeUnknown s ∧ s.act = none ∧ NoReply s
  | .rdOverride => FrameHeld s ∧ ModeUnknown s ∧ s.act = none ∧ NoReply s
  | .wrInflags => FrameHeld s ∧ ModeIs false s ∧ s.act = none ∧ NoReply s
  | .wrOutflags => FrameHeld s ∧ ModeIs false s ∧ s.act = none ∧ NoReply s
  | .wrOutflags2 => FrameHeld s ∧ ModeIs false s ∧ s.act = none ∧ NoReply s
  | .rdActuators => FrameHeld s ∧ ModeIs true s ∧ s.act = none ∧ NoReply s
  | .sendReply => FrameHeld s ∧ (AckReady s ∨ OverrideReady s) ∧ s.txi ≤ s.txn
  | .persist => FrameHeld s ∧ (AckReady s ∨ OverrideReady s) ∧ s.txi = s.txn
  | .backoff => FrameHeld s ∧ NoReply s
  | .teardown => CycleCleared s
  | .halted => CycleCleared s
  | .failed => CycleCleared s
  | .reserved => False

/-- The invariant of the block: a legal configuration, a FIFO within its depth, an outstanding request only in a PLC state, no
response left over, and the registers of the phase. -/
structure Inv (s : State) : Prop where
  legal : cfgLegal s.cfg = true
  fifo : s.rxq.length ≤ s.cfg.rxDepth
  port : s.rspIn = none
  call : s.pend = true → (plcOpOf s.st).isSome = true
  phase : PhaseOk s

/-- The run ends in `s`: HALTED or FAILED (42_bridge_loop.md R221). -/
def RunEnded (s : State) : Prop := s.st = .halted ∨ s.st = .failed

/-- A log word's fields (30_encoding.md R101): code, op, cause, the zero bits, aux0, aux1. -/
def logFields (w : BitVec 32) : BitVec 4 × BitVec 4 × BitVec 2 × BitVec 6 × Byte × Byte :=
  (w.extractLsb' 0 4, w.extractLsb' 4 4, w.extractLsb' 8 2, w.extractLsb' 10 6, w.extractLsb' 16 8, w.extractLsb' 24 8)

/-- The bytes of a persist record, byte 0 first (30_encoding.md R103). -/
def recordBytes (rec : BitVec 152) : List Byte := (List.range 19).map fun j => rec.extractLsb' (8 * j) 8

/-- The events a step adds: none is taken back, and `es` are new. -/
def Adds (s t : State) (es : List Event) : Prop := t.events = s.events ++ es

/-- An event is a log word. -/
def isLog : Event → Bool
  | .log _ => true
  | .rx _ => false
  | .rxdrop _ => false
  | .req _ => false
  | .rsp _ => false
  | .tx _ => false
  | .pst _ => false
  | .close _ => false
  | .shutdown => false
  | .reset => false

/-- The next turn is reset's. -/
def NextIsReset (s : State) : Prop := ∃ rest, s.sched = .reset :: rest

/-- `s` with the cycle registers holding no value and `st` = AWAIT: what every transition into AWAIT leaves (10_state.md R33). -/
def backInAwait (s : State) : State :=
  { s with
    st := .await, frm := none, level1 := none, level2 := none, tds := none, flow := none, pressure := none, inF := none
    outF := none, outF2 := none, fv := false, ovr := none, ovrV := false, act := none, txb0 := none, txb1 := none, txb2 := none
    txn := 0, txi := 0 }

/-- `s` after it has issued request `r` (20_memory.md R67). -/
def issued (r : Request) (s : State) : State :=
  { s with pend := true, rspIn := none, ret := none, events := s.events ++ [.req r] }

/-- `s` after it has consumed the response (20_memory.md R67). -/
def answered (s : State) : State := { s with pend := false, rspIn := none }

/-- The write data carries the five channels, one per 16-bit register, zero-extended, the first in the lowest bits (20_memory.md
R66, R68). -/
def CarriesChannels (wdata : BitVec 80) (channels : List Byte) : Prop :=
  (List.range 5).map (fun k => wdata.extractLsb' (16 * k) 16) = channels.map (BitVec.setWidth 16)

/-- The write data carries these coils from bit 0 up, and 0 above them (20_memory.md R68). -/
def CarriesCoils {w : Nat} (wdata : BitVec 80) (coils : BitVec w) : Prop := ∀ k, wdata.getLsbD k = coils.getLsbD k

/-- The request is writeAnalog's in this configuration (30_encoding.md R99). -/
def IsAnalogWrite (cfg : Config) (channels : List Byte) (r : Request) : Prop :=
  r.fc = 0x10#8 ∧ r.addr = cfg.analogBase ∧ r.cnt = 5#5 ∧ CarriesChannels r.wdata channels

/-- The request writes `count` coils from `base` (30_encoding.md R99). -/
def IsCoilWrite {w : Nat} (base : BitVec 16) (count : BitVec 5) (coils : BitVec w) (r : Request) : Prop :=
  r.fc = 0x0F#8 ∧ r.addr = base ∧ r.cnt = count ∧ CarriesCoils r.wdata coils

/-- The request reads `count` coils from `base` (30_encoding.md R98, R99). -/
def IsCoilRead (base : BitVec 16) (count : BitVec 5) (r : Request) : Prop :=
  r.fc = 0x01#8 ∧ r.addr = base ∧ r.cnt = count ∧ r.wdata = 0#80

/-- The outcome of a failure response to the operation with this op code: the call is over, one GATEWAY_ERROR word with the op
and the response's cause, and BACKOFF; nothing else (60_exceptions.md R252). -/
def FailsInto (op : BitVec 4) (cause : BitVec 2) (s : State) (o : Host.Outcome State Fault Refusal) : Prop :=
  ∃ w, logFields w = (0x4#4, op, cause, 0#6, 0#8, 0#8)
    ∧ o = .next { answered s with st := .backoff, events := s.events ++ [.log w] }

/-- `a` is the low `n` bits of `rdata`, and 0 above them (40_codec.md R141). -/
def IsPadded (rdata : BitVec 16) (n : Nat) (a : BitVec 16) : Prop :=
  ∀ k, a.getLsbD k = (decide (k < n) && rdata.getLsbD k)

/-- Event `e'` is event `e`, but for the data it carries of the input flags: the low eight bits of the write data of
writeInputFlags (41_gateway.md R172) and byte 5 of a persist record (30_encoding.md R103). -/
def EqualButInF (cfg : Config) (e e' : Event) : Prop :=
  e' = e ∨
  (∃ (r : Request) (w : BitVec 80), r.fc = 0x0F#8 ∧ r.addr = cfg.inflagBase ∧ r.cnt = 8#5 ∧
    (∀ k, 8 ≤ k → w.getLsbD k = r.wdata.getLsbD k) ∧ e = .req r ∧ e' = .req { r with wdata := w }) ∨
  (∃ rec rec' : BitVec 152, (∀ k, k < 40 ∨ 48 ≤ k → rec'.getLsbD k = rec.getLsbD k) ∧ e = .pst rec ∧ e' = .pst rec')

/-- `s'` is `s`, but for the value of `inF` and the data of it that the events carry (40_codec.md R136: the input flags do not
change the block's behaviour). -/
structure DifferInInF (s s' : State) : Prop where
  same : s' = { s with inF := s'.inF, events := s'.events }
  held : s'.inF.isSome = s.inF.isSome
  history : List.Forall₂ (EqualButInF s.cfg) s.events s'.events

end Sys2Proof.Safety
end

