-- ==== Sys2Proof/Certificates/Slice0/Obligations.lean ====
section
/-! DEFINITION. The statements about the model, for the provers. Each says which rule of spec/ it formalises. -/

open Sys2Proof Sys2Proof.Machine Sys2Proof.Safety

/-- Decoding the word of any instruction gives the instruction back, in every legal configuration. For every legal
configuration and every instruction of the table with every operand value, decoding the instruction's word answers that
instruction. The two 8-coil writes whose bases are configured equal have one header; there the position (whether
writeInputFlags came just before) tells them apart, as R99 says, and the statement asks for that position. Rests on
30_encoding.md R91, 30_encoding.md R95, 30_encoding.md R96, 30_encoding.md R98, 30_encoding.md R99, 30_encoding.md R100,
30_encoding.md R101. -/
def Obligations.DecodeInvertsEncode : Prop :=
  ∀ (cfg : Config) (afterInflags : Bool) (i : Instr), cfgLegal cfg = true →
    (cfg.inflagBase = cfg.outflagBase →
      (i = .writeInputFlags → afterInflags = false) ∧ (i = .writeOutputFlags → afterInflags = true)) →
    decode cfg afterInflags (encode cfg i) = .ok i

/-- A word that decodes to an instruction is exactly that instruction's word. For every configuration, position and word, if
the decoder answers instruction i then encoding i gives that very word: no two words of a port decode to one instruction,
and no bit is dropped. For log words this holds because the decoder rejects a word with other bits in the fields its code
does not use: R101 says nothing of such a word, and rejecting it is the model's inference (notes/assumptions/18.md). Rests
on 30_encoding.md R91, 30_encoding.md R97, 30_encoding.md R99, 30_encoding.md R100, 30_encoding.md R101. -/
def Obligations.DecodedWordIsTheEncodedOne : Prop :=
  ∀ (cfg : Config) (afterInflags : Bool) (w : PortWord) (i : Instr),
    decode cfg afterInflags w = .ok i → encode cfg i = w

/-- Words written out from the spec's encodings decode to the instructions they stand for. The Scenario A frame, a frame
with both reserved bits set, the two replies, the six request headers in the default configuration with override coil 100,
state codes, and log words of the five codes, each written out from 30_encoding.md, decode to the instruction the spec
names. The request headers carry the function codes 0x10, 0x0F and 0x01 (notes/assumptions/15.md, PRESUMED: R99 marks the
three function-code values as general knowledge, not in the source). Rests on 30_encoding.md R91, 30_encoding.md R95,
30_encoding.md R96, 30_encoding.md R98, 30_encoding.md R99, 30_encoding.md R100, 30_encoding.md R101, 30_encoding.md R102,
95_test_vectors.md D-1, E-2, E-6. -/
def Obligations.SpelledOutWordsDecode : Prop :=
  let cfg := Config.withDefaults 100#16
  decode cfg false (.rxGroup [0xAA#8, 0x32#8, 0x28#8, 0x0A#8, 0x05#8, 0x02#8, 0x04#8, 0x01#8, 0x00#8, 0xB8#8])
      = .ok (.frame 50#8 40#8 10#8 5#8 2#8 0x04#8 0x01#8 0#2 0#6 0xB8#8) ∧
    decode cfg false (.rxGroup [0xAA#8, 0x12#8, 0x34#8, 0x56#8, 0x78#8, 0x9A#8, 0x81#8, 0x3C#8, 0xE5#8, 0x60#8])
      = .ok (.frame 0x12#8 0x34#8 0x56#8 0x78#8 0x9A#8 0x81#8 0x3C#8 0b11#2 0b100101#6 0x60#8) ∧
    decode cfg false (.txReply [0xFF#8]) = .ok .ack ∧
    decode cfg false (.txReply [0xBB#8, 0x81#8, 0x20#8]) = .ok (.ovr 0x81#8 0x20#8) ∧
    decode cfg false (.plcHeader 0x2000005#29) = .ok .writeAnalog ∧
    decode cfg false (.plcHeader 0x1E00008#29) = .ok .writeInputFlags ∧
    decode cfg false (.plcHeader 0x1E00108#29) = .ok .writeOutputFlags ∧
    decode cfg false (.plcHeader 0x1E00206#29) = .ok .writeOutputFlags2 ∧
    decode cfg false (.plcHeader 0x0200C81#29) = .ok .readOverrideFlag ∧
    decode cfg false (.plcHeader 0x020010E#29) = .ok .readActuatorCoils ∧
    decode cfg false (.stateCode 0b0010#4) = .ok .stDecode ∧
    decode cfg false (.stateCode 0b1011#4) = .ok .stBackoff ∧
    decode cfg false (.stateCode 0b1111#4) = .ok .stReserved ∧
    decode cfg false (.logWord 0x000200F1#32) = .ok (.logBadLength 2#8) ∧
    decode cfg false (.logWord 0x005500F2#32) = .ok (.logBadStartByte 0x55#8) ∧
    decode cfg false (.logWord 0xB9B800F3#32) = .ok (.logChecksumMismatch 0xB8#8 0xB9#8) ∧
    decode cfg false (.logWord 0x00000124#32) = .ok (.logGatewayError .writeOutputFlags .timeout) ∧
    decode cfg false (.logWord 0x000200F5#32) = .ok (.logStartupFailure false true)

/-- A 10-byte group whose byte 0 is not 0xAA is an illegal frame, reported as BadStartByte. For every byte other than 0xAA
and every nine bytes after it, the group is no instruction of the table (the decoder rejects it by the name badStartByte)
and the codec's decode fails with BadStartByte of that byte, whatever the other nine bytes are. Formalises R92. -/
def Obligations.WrongStartByteIsIllegal : Prop :=
  ∀ (cfg : Config) (afterInflags : Bool) (b : Byte) (rest : List Byte), b ≠ 0xAA#8 → rest.length = 9 →
    decode cfg afterInflags (.rxGroup (b :: rest)) = .error (.badStartByte b) ∧
    codecDecode (b :: rest) = .error (.badStartByte b)

/-- On CORE's turn a step runs the instruction that the code in st decodes to, and fsm_state shows that instruction's code.
In a legal configuration, when nothing is scheduled or CORE is scheduled next, and the code in st decodes to instruction i,
the step is exec of i at the same state, less the turn taken from the schedule; nothing else is added around exec. In every
such state, whoever's turn it is, the status output fsm_state carries the code of that instruction. That the schedule says
whose turn it is, is the model's choice (notes/assumptions/2.md). Rests on 10_state.md R20, 10_state.md R35, 30_encoding.md
R100, 42_bridge_loop.md R200. -/
def Obligations.StepRunsTheFetchedInstruction : Prop :=
  ∀ (s : State) (i : Instr), cfgLegal s.cfg = true → decode s.cfg false (.stateCode (stCode s.st)) = .ok i →
    (s.sched = [] → step s = exec i s) ∧
    (∀ rest, s.sched = .core :: rest → step s = exec i { s with sched := rest }) ∧
    encode s.cfg i = .stateCode (fsmState s)

/-- A response runs the completion part of the current PLC state in the same step, and is ignored with none outstanding. In
a legal configuration with a response scheduled next: when a request is outstanding in a PLC state, the step records the
response and is exec of the instruction st decodes to, with the response shown to it; when no request is outstanding and st
is not the reserved code, the step changes nothing but the schedule and records no event. Rests on 42_bridge_loop.md R219,
20_memory.md R67. -/
def Obligations.ResponseRunsTheCompletionPart : Prop :=
  ∀ (s : State) (i : Instr) (r : RspWord) (rest : List Stimulus), cfgLegal s.cfg = true → s.sched = .rsp r :: rest →
    decode s.cfg false (.stateCode (stCode s.st)) = .ok i →
    (s.pend = true → (plcOpOf s.st).isSome = true →
      step s = exec i { s with sched := rest, rspIn := some r, events := s.events ++ [.rsp r] }) ∧
    (s.pend = false → s.st ≠ .reserved → step s = .next { s with sched := rest })

/-- ST_DECODE performs FRAME on the ten bytes it pops, or LOG_BAD_START_BYTE. With at least ten bytes buffered: if the head
of the FIFO decodes to a FRAME instruction, ST_DECODE is that instruction at the state with the ten bytes removed; if byte 0
is not 0xAA, ST_DECODE is LOG_BAD_START_BYTE of it there. So FRAME and the framing log reach a run through the state that
performs them. Rests on 42_bridge_loop.md R203, 40_codec.md R132. -/
def Obligations.DecodePerformsItsFrame : Prop :=
  ∀ s : State, 10 ≤ s.rxq.length →
    (∀ i, decodeGroup (s.rxq.take 10) = .ok i → exec .stDecode s = exec i { s with rxq := s.rxq.drop 10 }) ∧
    (∀ b, decodeGroup (s.rxq.take 10) = .error (.badStartByte b) →
      exec .stDecode s = exec (.logBadStartByte b) { s with rxq := s.rxq.drop 10 })

/-- A failure response makes each PLC state perform LOG_GATEWAY_ERROR with its op and the response's cause. For each of the
six PLC states with a request outstanding and a failure response shown, the state's instruction is LOG_GATEWAY_ERROR of its
own operation and the response's cause, at the state with the call over. Rests on 60_exceptions.md R252, 42_bridge_loop.md
R204 to R209. -/
def Obligations.PlcFailureIsTheGatewayLog : Prop :=
  ∀ (s : State) (r : RspWord), s.pend = true → s.rspIn = some r → r.ok = false →
    let c := causeOfCode r.cause
    exec .stWrAnalog s = exec (.logGatewayError .writeAnalog c) (answered s) ∧
    exec .stRdOverride s = exec (.logGatewayError .readOverrideFlag c) (answered s) ∧
    exec .stWrInflags s = exec (.logGatewayError .writeInputFlags c) (answered s) ∧
    exec .stWrOutflags s = exec (.logGatewayError .writeOutputFlags c) (answered s) ∧
    exec .stWrOutflags2 s = exec (.logGatewayError .writeOutputFlags2 c) (answered s) ∧
    exec .stRdActuators s = exec (.logGatewayError .readActuatorCoils c) (answered s)

/-- A success response makes ST_WR_OUTFLAGS2 perform ACK, and ST_RD_ACTUATORS perform OVR of the padded image. With a
request outstanding and a success response shown, ST_WR_OUTFLAGS2 is ACK at the state with the call over, and
ST_RD_ACTUATORS is OVR of the two bytes of the response's data, zero at and above ACT_COUNT, at the state with the call over
and act holding that image. Rests on 42_bridge_loop.md R208, 42_bridge_loop.md R209, 40_codec.md R141, 40_codec.md R142. -/
def Obligations.RepliesArePerformedByTheirStates : Prop :=
  ∀ (s : State) (r : RspWord) (a : BitVec 16), s.pend = true → s.rspIn = some r → r.ok = true →
    IsPadded r.rdata s.cfg.actCount a →
    exec .stWrOutflags2 s = exec .ack (answered s) ∧
    exec .stRdActuators s = exec (.ovr (a.extractLsb' 0 8) (a.extractLsb' 8 8)) { answered s with act := some a }

/-- FRAME loads the SensorFrame registers if its checksum is the XOR of the nine bytes before it, and else logs and drops
it. For every field value: if the XOR of 0xAA and the eight payload bytes (byte 8 with its reserved bits) equals the
checksum field, FRAME answers the state with frm and the SensorFrame registers written, fv set and st = WR_ANALOG,
everything else unchanged; otherwise it adds one CHECKSUM_MISMATCH log word (computed fold, received checksum) and returns
to AWAIT with the cycle registers invalidated. The spec gives these writes to DECODE; that FRAME run alone does what DECODE
does with it is the model's inference (notes/assumptions/1.md). Rests on 40_codec.md R132, 40_codec.md R135, 30_encoding.md
R104, 42_bridge_loop.md R203. -/
def Obligations.FrameDecodesOrIsDropped : Prop :=
  ∀ (l1 l2 t f p i o : Byte) (r : BitVec 2) (o2 : BitVec 6) (k : Byte) (s : State),
    let b8 : Byte := r ++ o2
    let fold := 0xAA#8 ^^^ l1 ^^^ l2 ^^^ t ^^^ f ^^^ p ^^^ i ^^^ o ^^^ b8
    (fold = k → exec (.frame l1 l2 t f p i o r o2 k) s = .next
      { s with
        frm := some [0xAA#8, l1, l2, t, f, p, i, o, b8, k]
        level1 := some l1, level2 := some l2, tds := some t, flow := some f, pressure := some p
        inF := some i, outF := some o, outF2 := some o2, fv := true, st := .wrAnalog }) ∧
    (fold ≠ k → ∃ w, logFields w = (0x3#4, 0xF#4, 0#2, 0#6, fold, k) ∧
      exec (.frame l1 l2 t f p i o r o2 k) s = .next (backInAwait { s with events := s.events ++ [.log w] }))

/-- ACK prepares the one byte 0xFF, OVR the three bytes 0xBB, flagOne, flagTwo, and both go to SEND_REPLY. ACK writes txb[0]
= 0xFF, txn = 1, txi = 0 and st = SEND_REPLY; OVR writes txb = [0xBB, flagOne, flagTwo], txn = 3, txi = 0 and st =
SEND_REPLY; each leaves everything else unchanged. R142 and R143 only return the bytes: that ACK and OVR run alone load them
as WR_OUTFLAGS2 and RD_ACTUATORS do is the model's inference (notes/assumptions/1.md), and so is that OVR leaves act alone
(notes/assumptions/22.md) and ACK the other two bytes of txb (notes/assumptions/19.md). Rests on 40_codec.md R142,
40_codec.md R143, 42_bridge_loop.md R208, 42_bridge_loop.md R209. -/
def Obligations.RepliesFillTheTransmitBuffer : Prop :=
  ∀ s : State,
    exec .ack s = .next { s with txb0 := some 0xFF#8, txn := 1, txi := 0, st := .sendReply } ∧
    ∀ f g : Byte, exec (.ovr f g) s = .next
      { s with txb0 := some 0xBB#8, txb1 := some f, txb2 := some g, txn := 3, txi := 0, st := .sendReply }

/-- writeAnalog issues one request: fc 0x10, ANALOG_BASE, 5 registers, each channel zero-extended. With no request
outstanding and the five channels held, writeAnalog adds one request event with fc 0x10, addr ANALOG_BASE, cnt 5 and the
channels zero-extended to 16 bits in the order level1, level2, tds, flow, pressure, sets pend, and changes nothing else of
the block's registers. The function code is the spec's general knowledge (notes/assumptions/15.md, PRESUMED: R99 marks the
three function-code values as general knowledge, not in the source). Rests on 41_gateway.md R171, 20_memory.md R66,
20_memory.md R68. -/
def Obligations.WriteAnalogIssuesItsRequest : Prop :=
  ∀ (s : State) (l1 l2 t f p : Byte), s.pend = false → s.level1 = some l1 → s.level2 = some l2 → s.tds = some t →
    s.flow = some f → s.pressure = some p →
    ∃ r, IsAnalogWrite s.cfg [l1, l2, t, f, p] r ∧ exec .writeAnalog s = .next (issued r s)

/-- The three flag writes issue fc 0x0F requests of 8, 8 and 6 coils, coil k carrying bit k of its flag register. With no
request outstanding and the flag register held, writeInputFlags, writeOutputFlags and writeOutputFlags2 each add one request
event with fc 0x0F, their configured base, count 8, 8 and 6, and the register's bits from bit 0 up with zeros above, set
pend, and change nothing else of the block's registers. The function code is the spec's general knowledge
(notes/assumptions/15.md, PRESUMED: R99 marks the three function-code values as general knowledge, not in the source). Rests
on 41_gateway.md R172, 41_gateway.md R173, 41_gateway.md R174, 20_memory.md R68. -/
def Obligations.FlagWritesIssueTheirRequests : Prop :=
  ∀ s : State, s.pend = false →
    (∀ v, s.inF = some v →
      ∃ r, IsCoilWrite s.cfg.inflagBase 8#5 v r ∧ exec .writeInputFlags s = .next (issued r s)) ∧
    (∀ v, s.outF = some v →
      ∃ r, IsCoilWrite s.cfg.outflagBase 8#5 v r ∧ exec .writeOutputFlags s = .next (issued r s)) ∧
    (∀ v, s.outF2 = some v →
      ∃ r, IsCoilWrite s.cfg.outflag2Base 6#5 v r ∧ exec .writeOutputFlags2 s = .next (issued r s))

/-- readOverrideFlag and readActuatorCoils issue fc 0x01 requests of 1 and ACT_COUNT coils with write data 0. With no
request outstanding, readOverrideFlag (its coil being given) adds one request event with fc 0x01, addr OVERRIDE_COIL, cnt 1
and write data 0; readActuatorCoils one with fc 0x01, addr ACT_BASE, cnt ACT_COUNT and write data 0; each sets pend and
changes nothing else of the block's registers. The function code is the spec's general knowledge (notes/assumptions/15.md,
PRESUMED: R99 marks the three function-code values as general knowledge, not in the source). Rests on 41_gateway.md R175,
41_gateway.md R176, 30_encoding.md R98, 30_encoding.md R99. -/
def Obligations.CoilReadsIssueTheirRequests : Prop :=
  ∀ s : State, s.pend = false →
    (∀ c, s.cfg.overrideCoil = some c →
      ∃ r, IsCoilRead c 1#5 r ∧ exec .readOverrideFlag s = .next (issued r s)) ∧
    ∃ r, IsCoilRead s.cfg.actBase (BitVec.ofNat 5 s.cfg.actCount) r ∧ exec .readActuatorCoils s = .next (issued r s)

/-- With a response shown, each PLC operation ends its call and returns ok, rdata[0], the padded image, or GatewayError.
With a request outstanding and a response shown, each of the six operations clears pend and returns: on success ok for the
four writes, rdata[0] for readOverrideFlag, the image zeroed at and above ACT_COUNT for readActuatorCoils; on failure
GatewayError with its own op and the response's cause. That the returned value stands in the field ret is the model's choice
(notes/assumptions/12.md). Rests on 41_gateway.md R170 to R176, 40_codec.md R141, 30_encoding.md R102. -/
def Obligations.OperationsReturnTheResponse : Prop :=
  ∀ (s : State) (r : RspWord), s.pend = true → s.rspIn = some r →
    (r.ok = true →
      exec .writeAnalog s = .next { answered s with ret := some .done } ∧
      exec .writeInputFlags s = .next { answered s with ret := some .done } ∧
      exec .writeOutputFlags s = .next { answered s with ret := some .done } ∧
      exec .writeOutputFlags2 s = .next { answered s with ret := some .done } ∧
      exec .readOverrideFlag s = .next { answered s with ret := some (.flag (r.rdata.getLsbD 0)) } ∧
      ∃ a, IsPadded r.rdata s.cfg.actCount a ∧
        exec .readActuatorCoils s = .next { answered s with ret := some (.coils a) }) ∧
    (r.ok = false →
      exec .writeAnalog s = .next { answered s with ret := some (.gatewayError .writeAnalog (causeOfCode r.cause)) } ∧
      exec .writeInputFlags s = .next { answered s with ret := some (.gatewayError .writeInputFlags (causeOfCode r.cause)) } ∧
      exec .writeOutputFlags s
        = .next { answered s with ret := some (.gatewayError .writeOutputFlags (causeOfCode r.cause)) } ∧
      exec .writeOutputFlags2 s
        = .next { answered s with ret := some (.gatewayError .writeOutputFlags2 (causeOfCode r.cause)) } ∧
      exec .readOverrideFlag s
        = .next { answered s with ret := some (.gatewayError .readOverrideFlag (causeOfCode r.cause)) } ∧
      exec .readActuatorCoils s
        = .next { answered s with ret := some (.gatewayError .readActuatorCoils (causeOfCode r.cause)) })

/-- With a request outstanding and no response, every PLC operation and every PLC state holds. With a request outstanding
and no response shown, each of the six operations and each of the six PLC states leaves the state exactly as it is. That a
hold is a step that changes nothing is the model's choice (notes/assumptions/3.md). Rests on 20_memory.md R67,
42_bridge_loop.md R200. -/
def Obligations.CallsHoldForTheirResponse : Prop :=
  ∀ s : State, s.pend = true → s.rspIn = none →
    exec .writeAnalog s = .next s ∧ exec .writeInputFlags s = .next s ∧ exec .writeOutputFlags s = .next s ∧
    exec .writeOutputFlags2 s = .next s ∧ exec .readOverrideFlag s = .next s ∧ exec .readActuatorCoils s = .next s ∧
    exec .stWrAnalog s = .next s ∧ exec .stRdOverride s = .next s ∧ exec .stWrInflags s = .next s ∧
    exec .stWrOutflags s = .next s ∧ exec .stWrOutflags2 s = .next s ∧ exec .stRdActuators s = .next s

/-- ST_INIT enters AWAIT when both links are up, and else logs STARTUP_FAILURE naming the failed links and goes to FAILED.
With both link inputs 1, ST_INIT answers the state in AWAIT with the cycle registers invalidated and no event; otherwise it
adds exactly one log word of code 5, op 0xF, with aux0 bit 0 = serial link failed, bit 1 = PLC link failed and the other
bits 0, and goes to FAILED with everything else unchanged (no close pulse). Rests on 42_bridge_loop.md R201,
60_exceptions.md R253, 30_encoding.md R101. -/
def Obligations.InitChecksBothLinks : Prop :=
  ∀ s : State,
    (s.serLinkOk = true → s.plcLinkOk = true → exec .stInit s = .next (backInAwait s)) ∧
    ((s.serLinkOk && s.plcLinkOk) = false → ∃ w x,
      logFields w = (0x5#4, 0xF#4, 0#2, 0#6, x, 0#8) ∧ x.getLsbD 0 = !s.serLinkOk ∧ x.getLsbD 1 = !s.plcLinkOk ∧
      (∀ k, 2 ≤ k → x.getLsbD k = false) ∧
      exec .stInit s = .next { s with st := .failed, events := s.events ++ [.log w] })

/-- ST_AWAIT goes to TEARDOWN on shutdown, else to DECODE with ten bytes buffered, else holds; it consumes nothing. If
shutdown is set ST_AWAIT goes to TEARDOWN, whatever is buffered; if it is not and at least 10 bytes are buffered it goes to
DECODE; otherwise it leaves the state as it is. In each case nothing but st changes. That a hold is a step that changes
nothing is the model's choice (notes/assumptions/3.md). Rests on 42_bridge_loop.md R202, 42_bridge_loop.md R200. -/
def Obligations.AwaitWaitsForTenBytesOrShutdown : Prop :=
  ∀ s : State,
    (s.shutdown = true → exec .stAwait s = .next { s with st := .teardown }) ∧
    (s.shutdown = false → 10 ≤ s.rxq.length → exec .stAwait s = .next { s with st := .decode }) ∧
    (s.shutdown = false → s.rxq.length < 10 → exec .stAwait s = .next s)

/-- ST_DECODE consumes exactly ten bytes and either loads the frame, or logs the first failing check and returns to AWAIT.
With at least ten bytes buffered, byte 0 to byte 9 at the head: if byte 0 is not 0xAA, one BAD_START_BYTE word with that
byte; if it is and the XOR of bytes 0 to 8 is not byte 9, one CHECKSUM_MISMATCH word with the fold and byte 9; in both the
ten bytes are gone, the cycle registers are invalidated and st = AWAIT; otherwise frm and the SensorFrame registers are
loaded, fv is set and st = WR_ANALOG. The rest of the FIFO stays in order and nothing else changes. (BadLength cannot arise
with ten bytes buffered.) Formalises R203. -/
def Obligations.DecodeConsumesTenBytes : Prop :=
  ∀ (s : State) (b0 b1 b2 b3 b4 b5 b6 b7 b8 b9 : Byte) (rest : List Byte),
    s.rxq = [b0, b1, b2, b3, b4, b5, b6, b7, b8, b9] ++ rest →
    let fold := b0 ^^^ b1 ^^^ b2 ^^^ b3 ^^^ b4 ^^^ b5 ^^^ b6 ^^^ b7 ^^^ b8
    (b0 ≠ 0xAA#8 → ∃ w, logFields w = (0x2#4, 0xF#4, 0#2, 0#6, b0, 0#8) ∧
      exec .stDecode s = .next (backInAwait { s with rxq := rest, events := s.events ++ [.log w] })) ∧
    (b0 = 0xAA#8 → fold ≠ b9 → ∃ w, logFields w = (0x3#4, 0xF#4, 0#2, 0#6, fold, b9) ∧
      exec .stDecode s = .next (backInAwait { s with rxq := rest, events := s.events ++ [.log w] })) ∧
    (b0 = 0xAA#8 → fold = b9 → exec .stDecode s = .next
      { s with
        rxq := rest, frm := some [b0, b1, b2, b3, b4, b5, b6, b7, b8, b9]
        level1 := some b1, level2 := some b2, tds := some b3, flow := some b4, pressure := some b5
        inF := some b6, outF := some b7, outF2 := some (b8.extractLsb' 0 6), fv := true, st := .wrAnalog })

/-- ST_WR_ANALOG issues writeAnalog, goes to RD_OVERRIDE on success, and logs and backs off on a failure. While no response
is at hand (no request outstanding, or none shown to the one outstanding) ST_WR_ANALOG is writeAnalog (its issue or its
hold). On a success response the call is over and st = RD_OVERRIDE, nothing else changed; on a failure response one
GATEWAY_ERROR word with op 0 and the cause, and BACKOFF. The override coil is not consulted. Rests on 42_bridge_loop.md
R204, 41_gateway.md R171. -/
def Obligations.WrAnalogThenQueriesOverride : Prop :=
  ∀ s : State,
    (s.pend = false ∨ s.rspIn = none → exec .stWrAnalog s = exec .writeAnalog s) ∧
    (∀ r, s.pend = true → s.rspIn = some r → r.ok = true →
      exec .stWrAnalog s = .next { answered s with st := .rdOverride }) ∧
    (∀ r, s.pend = true → s.rspIn = some r → r.ok = false → FailsInto 0x0#4 r.cause s (exec .stWrAnalog s))

/-- ST_RD_OVERRIDE writes the answered bit to ovr and goes to WR_INFLAGS for 0, to RD_ACTUATORS for 1. While no response is
at hand (no request outstanding, or none shown to the one outstanding) ST_RD_OVERRIDE is readOverrideFlag (its issue or its
hold). On a success response ovr = rdata[0], ovr_v = 1 and st = WR_INFLAGS when the bit is 0, RD_ACTUATORS when it is 1;
rdata[15:1] has no effect. On a failure response one GATEWAY_ERROR word with op 4 and the cause, and BACKOFF, with ovr not
written. Rests on 42_bridge_loop.md R205, 41_gateway.md R175, 41_gateway.md R177. -/
def Obligations.RdOverrideSelectsTheCycle : Prop :=
  ∀ s : State,
    (s.pend = false ∨ s.rspIn = none → exec .stRdOverride s = exec .readOverrideFlag s) ∧
    (∀ r, s.pend = true → s.rspIn = some r → r.ok = true → r.rdata.getLsbD 0 = false →
      exec .stRdOverride s = .next { answered s with ovr := some false, ovrV := true, st := .wrInflags }) ∧
    (∀ r, s.pend = true → s.rspIn = some r → r.ok = true → r.rdata.getLsbD 0 = true →
      exec .stRdOverride s = .next { answered s with ovr := some true, ovrV := true, st := .rdActuators }) ∧
    (∀ r, s.pend = true → s.rspIn = some r → r.ok = false → FailsInto 0x4#4 r.cause s (exec .stRdOverride s))

/-- WR_INFLAGS, WR_OUTFLAGS and WR_OUTFLAGS2 write the three groups in order and end in the acknowledge, or back off. While
no response is at hand (no request outstanding, or none shown to the one outstanding) each of the three states is its own
flag write (its issue or its hold). On a success response WR_INFLAGS goes to WR_OUTFLAGS, WR_OUTFLAGS to WR_OUTFLAGS2, and
WR_OUTFLAGS2 prepares the acknowledge and goes to SEND_REPLY; on a failure response one GATEWAY_ERROR word with op 1, 2 or 3
and the cause, and BACKOFF. Rests on 42_bridge_loop.md R206, 42_bridge_loop.md R207, 42_bridge_loop.md R208. -/
def Obligations.FlagWriteStatesFollowInOrder : Prop :=
  ∀ s : State,
    (s.pend = false ∨ s.rspIn = none → exec .stWrInflags s = exec .writeInputFlags s ∧
      exec .stWrOutflags s = exec .writeOutputFlags s ∧ exec .stWrOutflags2 s = exec .writeOutputFlags2 s) ∧
    (∀ r, s.pend = true → s.rspIn = some r → r.ok = true →
      exec .stWrInflags s = .next { answered s with st := .wrOutflags } ∧
      exec .stWrOutflags s = .next { answered s with st := .wrOutflags2 } ∧
      exec .stWrOutflags2 s = .next { answered s with txb0 := some 0xFF#8, txn := 1, txi := 0, st := .sendReply }) ∧
    (∀ r, s.pend = true → s.rspIn = some r → r.ok = false →
      FailsInto 0x1#4 r.cause s (exec .stWrInflags s) ∧ FailsInto 0x2#4 r.cause s (exec .stWrOutflags s) ∧
      FailsInto 0x3#4 r.cause s (exec .stWrOutflags2 s))

/-- ST_RD_ACTUATORS stores the padded image and prepares 0xBB and its two bytes, or logs and backs off. While no response is
at hand (no request outstanding, or none shown to the one outstanding) ST_RD_ACTUATORS is readActuatorCoils (its issue or
its hold). On a success response act is the data with zeros at and above ACT_COUNT, txb = [0xBB, act[7:0], act[15:8]], txn =
3, txi = 0 and st = SEND_REPLY; on a failure response one GATEWAY_ERROR word with op 5 and the cause, and BACKOFF. Rests on
42_bridge_loop.md R209, 41_gateway.md R176, 40_codec.md R141, 40_codec.md R142. -/
def Obligations.RdActuatorsPreparesTheOverrideReply : Prop :=
  ∀ s : State,
    (s.pend = false ∨ s.rspIn = none → exec .stRdActuators s = exec .readActuatorCoils s) ∧
    (∀ r, s.pend = true → s.rspIn = some r → r.ok = true → ∃ a, IsPadded r.rdata s.cfg.actCount a ∧
      exec .stRdActuators s = .next
        { answered s with
          act := some a, txb0 := some 0xBB#8, txb1 := some (a.extractLsb' 0 8), txb2 := some (a.extractLsb' 8 8)
          txn := 3, txi := 0, st := .sendReply }) ∧
    (∀ r, s.pend = true → s.rspIn = some r → r.ok = false → FailsInto 0x5#4 r.cause s (exec .stRdActuators s))

/-- ST_SEND_REPLY holds while bytes are left to send and goes to PERSIST when all are accepted. When txi = txn,
ST_SEND_REPLY goes to PERSIST and nothing else changes; when txi is below txn and the byte txb[txi] to offer is held, it
leaves the state as it is until the byte is accepted. That a hold is a step that changes nothing is the model's choice
(notes/assumptions/3.md). Left out: txi above txn, which no run reaches and where the model holds (notes/assumptions/23.md),
and a byte txb[txi] that holds no value, whose read is the fault of R34. Rests on 42_bridge_loop.md R210, 42_bridge_loop.md
R200. -/
def Obligations.SendReplyWaitsForEveryByte : Prop :=
  ∀ s : State,
    (s.txi = s.txn → exec .stSendReply s = .next { s with st := .persist }) ∧
    (s.txi < s.txn → (∃ b, [s.txb0, s.txb1, s.txb2][s.txi]? = some (some b)) → exec .stSendReply s = .next s)

/-- ST_PERSIST emits one record with the nineteen bytes of R103 and ends the cycle. With the SensorFrame registers and ovr
held, and act held in an OVERRIDE cycle, ST_PERSIST adds one persist event whose bytes 0 to 18 are the five channels, inF,
outF, outF2 zero-extended, the mode byte, the two applied bytes (outF and outF2 in NORMAL, act in OVERRIDE) and the eight
bytes of wallclock, least significant first; the cycle registers are invalidated and st = AWAIT. Formalises R103. -/
def Obligations.PersistEmitsTheNineteenBytes : Prop :=
  ∀ (s : State) (l1 l2 t f p i o : Byte) (o2 : BitVec 6), s.level1 = some l1 → s.level2 = some l2 → s.tds = some t →
    s.flow = some f → s.pressure = some p → s.inF = some i → s.outF = some o → s.outF2 = some o2 →
    let clock := (List.range 8).map fun j => s.wallclock.extractLsb' (8 * j) 8
    (s.ovr = some false → ∃ rec,
      recordBytes rec = [l1, l2, t, f, p, i, o, o2.setWidth 8, 0x00#8, o, o2.setWidth 8] ++ clock ∧
      exec .stPersist s = .next (backInAwait { s with events := s.events ++ [.pst rec] })) ∧
    (∀ a, s.ovr = some true → s.act = some a → ∃ rec,
      recordBytes rec = [l1, l2, t, f, p, i, o, o2.setWidth 8, 0x01#8, a.extractLsb' 0 8, a.extractLsb' 8 8] ++ clock ∧
      exec .stPersist s = .next (backInAwait { s with events := s.events ++ [.pst rec] }))

/-- ST_BACKOFF returns to AWAIT invalidated, ST_TEARDOWN closes serial then plc and goes to HALTED. ST_BACKOFF answers the
state in AWAIT with the cycle registers invalidated, the FIFO and the flags unchanged and no event; ST_TEARDOWN adds a close
of the serial link and then one of the PLC link and goes to HALTED, nothing else changed. Rests on 42_bridge_loop.md R212,
42_bridge_loop.md R213, 10_state.md R33. -/
def Obligations.BackoffReturnsAndTeardownCloses : Prop :=
  ∀ s : State,
    exec .stBackoff s = .next (backInAwait s) ∧
    exec .stTeardown s = .next { s with st := .halted, events := s.events ++ [.close .serial, .close .plc] }

/-- HALTED and FAILED have no CORE step, ignore received bytes, and only reset leaves them; FAILED is entered only from
INIT. ST_HALTED and ST_FAILED change nothing. From HALTED or FAILED every step that is not a reset keeps st, the FIFO and
every event but a shutdown pulse out of the history: it changes at most the shutdown flag, the inputs and the schedule. A
step that is in FAILED afterwards was there before or came from INIT. The spec gives CORE no step there: that a hold is a
step that changes nothing is the model's choice (notes/assumptions/3.md), and that an ignored byte leaves no event is its
inference (notes/assumptions/25.md). Rests on 42_bridge_loop.md R214, 42_bridge_loop.md R215, 20_memory.md R63. -/
def Obligations.HaltedAndFailedAreTerminal : Prop :=
  (∀ s : State, exec .stHalted s = .next s ∧ exec .stFailed s = .next s) ∧
  (∀ s t : State, RunEnded s → step s = .next t → ¬NextIsReset s →
    t.st = s.st ∧ t.rxq = s.rxq ∧ (∃ es, Adds s t es ∧ ∀ e ∈ es, e = .shutdown) ∧
    t = { s with
      shutdown := t.shutdown, serLinkOk := t.serLinkOk, plcLinkOk := t.plcLinkOk, wallclock := t.wallclock
      sched := t.sched, events := t.events }) ∧
  (∀ s t : State, step s = .next t → t.st = .failed → s.st = .failed ∨ s.st = .init)

/-- The reserved code 0xF is a fault, and no step enters it. ST_RESERVED_STATE answers the fault reservedState in every
state. In a legal configuration a step at the reserved code is that fault unless a reset comes next, and no step from any
other state arrives at the reserved code. R216 does not say which agent's step faults: that every agent's turn but a reset
does, and that a reset is let through as R280 says, is the model's inference (notes/assumptions/14.md). Rests on
42_bridge_loop.md R216, 70_reset_and_hazards.md R280. -/
def Obligations.ReservedStateFaults : Prop :=
  (∀ s : State, exec .stReserved s = .fault .reservedState) ∧
  (∀ s : State, cfgLegal s.cfg = true → s.st = .reserved → ¬NextIsReset s → step s = .fault .reservedState) ∧
  (∀ s t : State, step s = .next t → t.st ≠ .reserved)

/-- Each log instruction emits its one word with the fields of R101 and goes to the next state of R250. LOG_BAD_LENGTH,
LOG_BAD_START_BYTE and LOG_CHECKSUM_MISMATCH add one word with codes 1, 2, 3, op 0xF and their data in aux0 and aux1 and
return to AWAIT invalidated; LOG_GATEWAY_ERROR adds one word with code 4, its op code and cause code and goes to BACKOFF;
LOG_STARTUP_FAILURE adds one word with code 5, aux0 bit 0 serial, bit 1 PLC, and goes to FAILED; nothing else changes. The
spec gives a log word no step of its own: that a log row run alone is the error it reports, with that error's change of
control, is the model's inference (notes/assumptions/1.md). Rests on 60_exceptions.md R250, 60_exceptions.md R259,
30_encoding.md R101, 30_encoding.md R102. -/
def Obligations.LogsTakeTheirError : Prop :=
  ∀ s : State,
    (∀ n, ∃ w, logFields w = (0x1#4, 0xF#4, 0#2, 0#6, n, 0#8) ∧
      exec (.logBadLength n) s = .next (backInAwait { s with events := s.events ++ [.log w] })) ∧
    (∀ b, ∃ w, logFields w = (0x2#4, 0xF#4, 0#2, 0#6, b, 0#8) ∧
      exec (.logBadStartByte b) s = .next (backInAwait { s with events := s.events ++ [.log w] })) ∧
    (∀ c r, ∃ w, logFields w = (0x3#4, 0xF#4, 0#2, 0#6, c, r) ∧
      exec (.logChecksumMismatch c r) s = .next (backInAwait { s with events := s.events ++ [.log w] })) ∧
    (∀ op c, ∃ w, logFields w = (0x4#4, opCode op, causeCode c, 0#6, 0#8, 0#8) ∧
      exec (.logGatewayError op c) s = .next { s with st := .backoff, events := s.events ++ [.log w] }) ∧
    (∀ ser plc, ∃ w x, logFields w = (0x5#4, 0xF#4, 0#2, 0#6, x, 0#8) ∧ x.getLsbD 0 = ser ∧ x.getLsbD 1 = plc ∧
      (∀ k, 2 ≤ k → x.getLsbD k = false) ∧
      exec (.logStartupFailure ser plc) s = .next { s with st := .failed, events := s.events ++ [.log w] })

/-- A received byte is ignored when the run has ended, stored while there is room, and else dropped with rx_overflow set. In
a legal configuration with a byte delivered next: in HALTED and FAILED nothing changes but the schedule; in any other state
(but the reserved code) the byte is appended to the FIFO while it holds fewer than RX_DEPTH bytes, and otherwise it is
dropped, the FIFO stays as it is and rx_overflow is set. st is unchanged. The events are those of R222; that an ignored byte
leaves none is the model's inference (notes/assumptions/25.md). Rests on 20_memory.md R63, 42_bridge_loop.md R222. -/
def Obligations.ReceiveAgentBuffersOrDrops : Prop :=
  ∀ (s : State) (b : Byte) (rest : List Stimulus), cfgLegal s.cfg = true → s.sched = .rx b :: rest → s.st ≠ .reserved →
    (RunEnded s → step s = .next { s with sched := rest }) ∧
    (¬RunEnded s → s.rxq.length < s.cfg.rxDepth →
      step s = .next { s with sched := rest, rxq := s.rxq ++ [b], events := s.events ++ [.rx b] }) ∧
    (¬RunEnded s → s.cfg.rxDepth ≤ s.rxq.length →
      step s = .next { s with sched := rest, rxOverflow := true, events := s.events ++ [.rxdrop b] })

/-- A shutdown pulse sets the shutdown flag in any state and has no other effect. In a legal configuration with a shutdown
pulse next, and st not the reserved code, the step sets shutdown, records the pulse and changes nothing else: an outstanding
request, a reply being sent and st stay as they are. Formalises R218. -/
def Obligations.ShutdownPulseOnlySetsItsFlag : Prop :=
  ∀ (s : State) (rest : List Stimulus), cfgLegal s.cfg = true → s.sched = .shutdown :: rest → s.st ≠ .reserved →
    step s = .next { s with sched := rest, shutdown := true, events := s.events ++ [.shutdown] }

/-- In SEND_REPLY with txi below txn, an accept takes txb[txi], records it and advances txi; with no byte offered it does
nothing. In a legal configuration with an accept next: in SEND_REPLY with txi below txn and txb[txi] holding b, the step
records the transmission of b and adds 1 to txi, and nothing else changes; there with txb[txi] holding no value, which no
run reaches, the read is the fault noValue (R34); in any other state but the reserved code, and in SEND_REPLY with txi not
below txn, nothing is offered and nothing but the schedule changes. R220 has no accept step then: that such an accept does
nothing is the model's choice (notes/assumptions/9.md). Rests on 42_bridge_loop.md R220, 42_bridge_loop.md R210,
20_memory.md R64, 10_state.md R34. -/
def Obligations.TransmitAcceptTakesTheOfferedByte : Prop :=
  ∀ (s : State) (rest : List Stimulus), cfgLegal s.cfg = true → s.sched = .accept :: rest →
    (∀ b, s.st = .sendReply → s.txi < s.txn → [s.txb0, s.txb1, s.txb2][s.txi]? = some (some b) →
      step s = .next { s with sched := rest, txi := s.txi + 1, events := s.events ++ [.tx b] }) ∧
    (s.st = .sendReply → s.txi < s.txn → [s.txb0, s.txb1, s.txb2][s.txi]? = some none →
      ∃ r ∈ [Reg.txb0, .txb1, .txb2], step s = .fault (.noValue r)) ∧
    (s.st ≠ .reserved → ¬(s.st = .sendReply ∧ s.txi < s.txn) → step s = .next { s with sched := rest })

/-- A reset takes every register to its reset value from any state, keeps the configuration, and emits nothing. In a legal
configuration with a reset next, in any state, the step leaves exactly: st = INIT, the FIFO empty, every flag 0, the cycle
registers and the transmit buffer with no value, txn = txi = 0, no request outstanding; the configuration, and the inputs
the environment drives, unchanged; and in the history the reset alone. The status outputs fsm_state and rx_overflow_o are
0x0 and 0 then. That the history and the schedule go on is the model's choice (notes/assumptions/13.md). Rests on
70_reset_and_hazards.md R280, 70_reset_and_hazards.md R281, 10_state.md R20, R24 to R33, 10_state.md R35. -/
def Obligations.ResetTakesEveryRegister : Prop :=
  ∀ (s : State) (rest : List Stimulus), cfgLegal s.cfg = true → s.sched = .reset :: rest →
    ∃ t, step s = .next t ∧ fsmState t = 0x0#4 ∧ rxOverflowO t = false ∧ t =
      { cfg := s.cfg, st := .init, rxq := [], rxOverflow := false, shutdown := false, frm := none, level1 := none
        level2 := none, tds := none, flow := none, pressure := none, inF := none, outF := none, outF2 := none, fv := false
        ovr := none, ovrV := false, act := none, txb0 := none, txb1 := none, txb2 := none, txn := 0, txi := 0, pend := false
        serLinkOk := s.serLinkOk, plcLinkOk := s.plcLinkOk, wallclock := s.wallclock, rspIn := none, sched := rest
        events := s.events ++ [.reset], ret := none }

/-- A configuration is legal exactly under the nine conditions of R23, and an illegal one is refused. cfgLegal holds if and
only if the override coil is given, the six ranges fit in 65536 cells, ACT_COUNT is 14, 15 or 16 and RX_DEPTH is at least
10; and with a configuration that is not legal every step is the refusal illegalConfiguration. Formalises R23. -/
def Obligations.OnlyLegalConfigurationsRun : Prop :=
  (∀ c : Config, cfgLegal c = true ↔
    (c.analogBase.toNat + 5 ≤ 65536 ∧ c.inflagBase.toNat + 8 ≤ 65536 ∧ c.outflagBase.toNat + 8 ≤ 65536 ∧
      c.outflag2Base.toNat + 6 ≤ 65536 ∧ c.actBase.toNat + c.actCount ≤ 65536 ∧
      (c.actCount = 14 ∨ c.actCount = 15 ∨ c.actCount = 16) ∧ 10 ≤ c.rxDepth ∧
      ∃ coil, c.overrideCoil = some coil ∧ coil.toNat + 1 ≤ 65536)) ∧
  (∀ s : State, cfgLegal s.cfg = false → step s = .refused .illegalConfiguration)

/-- xorfold of the empty sequence is 0, bit i of xorfold is the parity of the bits i, and the order of the bytes does not
matter. xorfold of no bytes is 0x00; bit i of xorfold of any sequence is 1 exactly when an odd number of its bytes have bit
i set, so a byte that appears twice cancels; and permuting the bytes does not change the fold. Formalises R130. -/
def Obligations.FoldIsTheBitwiseParity : Prop :=
  xorfold [] = 0x00#8 ∧
  (∀ (bs : List Byte) (i : Nat), (xorfold bs).getLsbD i = decide (bs.countP (fun b => b.getLsbD i) % 2 = 1)) ∧
  (∀ bs cs : List Byte, bs.Perm cs → xorfold bs = xorfold cs)

/-- Nine bytes with a valid start byte and their fold decode, and give back the channels and the flags. For every 9-byte
payload p whose byte 0 is 0xAA, decoding p followed by the XOR fold of p succeeds; the five channels are bytes 1 to 5, and
flag i of each group is bit i of byte 6, byte 7 and the low six bits of byte 8. (The spec derives this law from its decode
rule: it is the spec's own inference.) Rests on 40_codec.md section 5 Laws, 95_test_vectors.md L1-1. -/
def Obligations.GoodPayloadRoundTrips : Prop :=
  ∀ p : List Byte, p.length = 9 → byteAt p 0 = 0xAA#8 →
    ∃ f, codecDecode (p ++ [xorfold p]) = .ok f ∧
      [f.level1, f.level2, f.tds, f.flow, f.pressure] = (p.drop 1).take 5 ∧
      [f.inputFlags.levelSwitch, f.inputFlags.pbStart, f.inputFlags.modeStandby, f.inputFlags.modeFiltering,
        f.inputFlags.modeBackwash, f.inputFlags.modeDrain, f.inputFlags.modeOverride, f.inputFlags.emergencyStop]
        = (List.range 8).map (byteAt p 6).getLsbD ∧
      [f.outputFlags.solenoid1, f.outputFlags.solenoid2, f.outputFlags.solenoid3, f.outputFlags.solenoid4,
        f.outputFlags.solenoid5, f.outputFlags.solenoid6, f.outputFlags.pump1, f.outputFlags.pump2]
        = (List.range 8).map (byteAt p 7).getLsbD ∧
      [f.outputFlags2.pump3, f.outputFlags2.standbyLamp, f.outputFlags2.filteringLamp, f.outputFlags2.backwashLamp,
        f.outputFlags2.drainLamp, f.outputFlags2.stepper] = (List.range 6).map (byteAt p 8).getLsbD

/-- Flipping any one bit of a good frame makes decode fail: BadStartByte in byte 0, ChecksumMismatch elsewhere. Take ten
bytes that decode, and flip one bit k of one byte j. If j = 0, decode fails with BadStartByte of the flipped byte; if j is 1
to 9, decode fails with a ChecksumMismatch whose two values differ. (The spec derives this law: it is the spec's own
inference.) Rests on 40_codec.md section 5 Laws, 95_test_vectors.md L1-2. -/
def Obligations.SingleBitFlipIsCaught : Prop :=
  ∀ (bs : List Byte) (f : SensorFrame) (j k : Nat), codecDecode bs = .ok f → j < 10 → k < 8 →
    let flipped := byteAt bs j ^^^ BitVec.twoPow 8 k
    (j = 0 → codecDecode (bs.set j flipped) = .error (.badStartByte flipped)) ∧
    (j ≠ 0 → ∃ c r, c ≠ r ∧ codecDecode (bs.set j flipped) = .error (.checksumMismatch c r))

/-- Flipping the same bits in two bytes after the start byte leaves a good frame decoding. Take ten bytes that decode and
two different positions from 1 to 9; XOR the same mask into both bytes. The result still decodes: the checksum does not see
it. (The spec derives this law: it is the spec's own inference.) Rests on 40_codec.md section 5 Laws, 95_test_vectors.md
D-13. -/
def Obligations.PairedFlipsPassUnseen : Prop :=
  ∀ (bs : List Byte) (f : SensorFrame) (i j : Nat) (mask : Byte), codecDecode bs = .ok f →
    1 ≤ i → i < 10 → 1 ≤ j → j < 10 → i ≠ j →
    ∃ g, codecDecode ((bs.set i (byteAt bs i ^^^ mask)).set j (byteAt bs j ^^^ mask)) = .ok g

/-- The checksum matches if and only if the fold of all ten bytes is 0. For every ten bytes, the fold of bytes 0 to 8 equals
byte 9 if and only if the fold of all ten is 0x00. (The spec derives this from its fold rule: it is the spec's own
inference.) Rests on 40_codec.md section 1 Checksum. -/
def Obligations.WholeFrameFoldCheck : Prop :=
  ∀ bs : List Byte, bs.length = 10 → (xorfold (bs.take 9) = byteAt bs 9 ↔ xorfold bs = 0x00#8)

/-- Unpacking the two packed bytes of any 16 booleans gives the 16 booleans back. For every list of 16 booleans, unpack16 of
pack8 of the first eight and pack8 of the last eight is the list. (The spec derives this law: it is the spec's own
inference.) Rests on 40_codec.md section 5 Laws, 95_test_vectors.md L1-3. -/
def Obligations.UnpackInvertsPack : Prop :=
  ∀ f : List Bool, f.length = 16 → unpack16 (pack8 (f.take 8)) (pack8 (f.drop 8)) = f

/-- decode reports BadLength exactly off ten bytes, then BadStartByte exactly for a wrong byte 0, then ChecksumMismatch
exactly for a wrong sum. For every byte sequence: decode answers BadLength n if and only if its length is n and not 10; it
answers BadStartByte b if and only if it has ten bytes and byte 0 is b, not 0xAA; it answers ChecksumMismatch c r if and
only if it has ten bytes, byte 0 is 0xAA, c is the fold of bytes 0 to 8, r is byte 9 and they differ. In the block BadLength
cannot occur: in every state of the invariant in DECODE, the bytes it pops do not decode to it. (The spec marks R133, this
clause with it, as derived from R132 and R203: it is the spec's own inference.) Rests on 40_codec.md R133, 40_codec.md R134,
40_codec.md R135, 42_bridge_loop.md R203. -/
def Obligations.DecodeReportsTheFirstFailure : Prop :=
  (∀ bs : List Byte,
    (∀ n, codecDecode bs = .error (.badLength n) ↔ bs.length = n ∧ n ≠ 10) ∧
    (∀ b, codecDecode bs = .error (.badStartByte b) ↔ bs.length = 10 ∧ byteAt bs 0 = b ∧ b ≠ 0xAA#8) ∧
    (∀ c r, codecDecode bs = .error (.checksumMismatch c r) ↔
      bs.length = 10 ∧ byteAt bs 0 = 0xAA#8 ∧ c = xorfold (bs.take 9) ∧ r = byteAt bs 9 ∧ c ≠ r)) ∧
  (∀ (s : State) (n : Nat), Inv s → s.st = .decode → codecDecode (rxPop 10 s).1 ≠ .error (.badLength n))

/-- encodeOverride of exactly 16 booleans is 0xBB and two bytes carrying coil i in bit i; of any other number it fails. For
every sequence of booleans: with length 16, encodeOverride answers [0xBB, f, g] where bit i of f is boolean i and bit i of g
is boolean 8 + i; with any other length it fails with InvalidFlagCount of that length. On the 16 bits of an image a it is
[0xBB, a[7:0], a[15:8]]. Formalises R142. -/
def Obligations.OverrideReplyPacksSixteenCoils : Prop :=
  (∀ flags : List Bool, flags.length = 16 → ∃ f g : Byte, encodeOverride flags = .ok [0xBB#8, f, g] ∧
    ∀ i, i < 8 → flags[i]? = some (f.getLsbD i) ∧ flags[8 + i]? = some (g.getLsbD i)) ∧
  (∀ flags : List Bool, flags.length ≠ 16 → encodeOverride flags = .error (.invalidFlagCount flags.length)) ∧
  (∀ a : BitVec 16, encodeOverride (coilsOf a) = .ok [0xBB#8, a.extractLsb' 0 8, a.extractLsb' 8 8])

/-- pad16 keeps bit k below the count and clears it at and above the count. For every 16-bit data and every count n, bit k
of pad16 is bit k of the data when k is below n, and 0 otherwise. Formalises R141. -/
def Obligations.PadKeepsOnlyTheCoilsRead : Prop :=
  ∀ (rdata : BitVec 16) (n k : Nat), (pad16 rdata n).getLsbD k = (decide (k < n) && rdata.getLsbD k)

/-- The invariant holds of the machine right after reset. State.reset has a legal configuration, an empty FIFO, no request
outstanding and every cycle register with no value: the invariant that StepKeepsInvariant keeps. That the configuration of
State.reset is legal rests on two choices of the model: a coil is given there, an opaque parameter, so this holds for every
value of it (notes/assumptions/4.md), and the defaults stand for every other parameter (notes/assumptions/20.md). R23 says
only what a configuration must meet to be legal, and R281 gives the reset values of the registers. Rests on
70_reset_and_hazards.md R281, 10_state.md R23. -/
def Obligations.InvariantAtReset : Prop :=
  Inv State.reset

/-- Every step from a state of the invariant, whatever agent takes it, ends in a state of the invariant. For every state s
with the invariant, if the step answers next t then t has the invariant: the configuration stays legal, the FIFO within
RX_DEPTH, a request outstanding only in a PLC state, and the registers are those of the phase (SensorFrame registers that
are the decode of frm from WR_ANALOG to PERSIST, ovr false in the flag writes and true in RD_ACTUATORS, the reply that fits
ovr in SEND_REPLY and PERSIST, nothing held in AWAIT and the end states). Rests on 10_state.md R24, R27 to R34,
42_bridge_loop.md R200 to R216. -/
def Obligations.StepKeepsInvariant : Prop :=
  ∀ s t : State, Inv s → step s = .next t → Inv t

/-- From a state of the invariant every step answers a next state: no register without a value is ever read. For every state
with the invariant and every agent's turn, the step answers a next state: it never faults (no read of a register that holds
no value, no reserved code, no InvalidFlagCount) and never refuses. Where the spec gives CORE no step, that its hold answers
a next state at all is the model's choice (notes/assumptions/3.md). Rests on 10_state.md R34, 42_bridge_loop.md R216,
60_exceptions.md R255. -/
def Obligations.InvariantStatesAlwaysStep : Prop :=
  ∀ s : State, Inv s → ∃ t, step s = .next t

/-- No step changes the configuration; a link or clock stimulus sets its inputs and nothing else, and nothing else sets
them. For every state and step that answers a next state, reset included, the configuration after is the configuration
before; the link inputs change only by a link stimulus and wallclock only by a clock stimulus. In a legal configuration and
any state but the reserved code, a link stimulus sets ser_link_ok and plc_link_ok to its two values, a clock stimulus sets
wallclock to its value, and nothing else changes but the schedule; neither leaves an event. That the environment's draws are
stimuli and its inputs fields that keep their value is the model's choice (notes/assumptions/2.md, notes/assumptions/5.md).
Rests on 10_state.md R22, 70_reset_and_hazards.md R280, 42_bridge_loop.md R201, 42_bridge_loop.md R211, 30_encoding.md R106.
-/
def Obligations.ConfigurationAndInputsComeFromOutside : Prop :=
  (∀ s t : State, step s = .next t →
    t.cfg = s.cfg ∧
    ((t.serLinkOk ≠ s.serLinkOk ∨ t.plcLinkOk ≠ s.plcLinkOk) → ∃ ser plc rest, s.sched = .link ser plc :: rest) ∧
    (t.wallclock ≠ s.wallclock → ∃ ts rest, s.sched = .clock ts :: rest)) ∧
  (∀ (s : State) (ser plc : Bool) (rest : List Stimulus), cfgLegal s.cfg = true → s.st ≠ .reserved →
    s.sched = .link ser plc :: rest → step s = .next { s with sched := rest, serLinkOk := ser, plcLinkOk := plc }) ∧
  (∀ (s : State) (ts : BitVec 64) (rest : List Stimulus), cfgLegal s.cfg = true → s.st ≠ .reserved →
    s.sched = .clock ts :: rest → step s = .next { s with sched := rest, wallclock := ts })

/-- A step only adds events to the history, and at most one of them is a log word. For every state and step that answers a
next state, the history after is the history before followed by new events, of which at most one is a log word. That the
history is held in the state is the model's choice (notes/assumptions/13.md). Rests on 20_memory.md R75, 42_bridge_loop.md
R222. -/
def Obligations.HistoryGrowsByAtMostOneLog : Prop :=
  ∀ s t : State, step s = .next t → ∃ es, Adds s t es ∧ es.countP isLog ≤ 1

/-- rx_overflow, which rx_overflow_o shows, and shutdown are set only by their agents and cleared only by reset. For every
step that answers a next state and is not a reset, a set rx_overflow stays set and a set shutdown stays set; and if
rx_overflow or shutdown is set after and was not before, the step was a byte delivered to a full FIFO, or a shutdown pulse.
The status output rx_overflow_o carries rx_overflow before and after the step. Rests on 10_state.md R25, 10_state.md R26,
10_state.md R35, 10_state.md R36. -/
def Obligations.StickyFlagsHaveOneSetter : Prop :=
  ∀ s t : State, step s = .next t →
    (¬NextIsReset s → (s.rxOverflow = true → t.rxOverflow = true) ∧ (s.shutdown = true → t.shutdown = true)) ∧
    (s.rxOverflow = false → t.rxOverflow = true → s.cfg.rxDepth ≤ s.rxq.length ∧ ∃ b rest, s.sched = .rx b :: rest) ∧
    (s.shutdown = false → t.shutdown = true → ∃ rest, s.sched = .shutdown :: rest) ∧
    rxOverflowO s = s.rxOverflow ∧ rxOverflowO t = t.rxOverflow

/-- While a request is outstanding no step issues another. For every state with pend = 1 and every step that answers a next
state, no request is among the events the step adds. Rests on 20_memory.md R67. -/
def Obligations.NoSecondRequestOutstanding : Prop :=
  ∀ (s t : State) (es : List Event), s.pend = true → step s = .next t → Adds s t es → ∀ r, Event.req r ∉ es

/-- A coil write is issued only in a cycle whose one query answered NORMAL, and an actuator read only in OVERRIDE. For every
state with the invariant and every step that adds a request: if it is a coil write (fc 0x0F), ovr is 0; if it is an actuator
read (fc 0x01 of more than one coil), ovr is 1; if it is the one-coil query, ovr has no value yet. The three are told apart
by their function codes (notes/assumptions/15.md, PRESUMED: R99 marks the three function-code values as general knowledge,
not in the source). Rests on 60_exceptions.md R262, 42_bridge_loop.md R205, 41_gateway.md R178. -/
def Obligations.FlagCoilsAreWrittenOnlyInNormal : Prop :=
  ∀ (s t : State) (es : List Event) (r : Request), Inv s → step s = .next t → Adds s t es → Event.req r ∈ es →
    (r.fc = 0x0F#8 → s.ovr = some false) ∧
    (r.fc = 0x01#8 → r.cnt ≠ 1#5 → s.ovr = some true) ∧
    (r.fc = 0x01#8 → r.cnt = 1#5 → s.ovr = none)

/-- The first byte of a reply is 0xFF of a one-byte reply in NORMAL, or 0xBB of a three-byte reply in OVERRIDE. For every
state with the invariant and every step that transmits a byte while none of the reply has been sent: the byte is 0xFF, the
reply has one byte and ovr is 0; or the byte is 0xBB, the reply has three bytes and ovr is 1. Rests on 30_encoding.md R97,
42_bridge_loop.md R224. -/
def Obligations.LeadByteTellsTheReplyLength : Prop :=
  ∀ (s t : State) (es : List Event) (b : Byte), Inv s → step s = .next t → Adds s t es → Event.tx b ∈ es → s.txi = 0 →
    (b = 0xFF#8 ∧ s.txn = 1 ∧ s.ovr = some false) ∨ (b = 0xBB#8 ∧ s.txn = 3 ∧ s.ovr = some true)

/-- Once shutdown is set no step enters DECODE, and CORE's turn in AWAIT is the way to TEARDOWN. For every state with
shutdown set and every step that answers a next state, DECODE after means DECODE before; and if st was AWAIT it is AWAIT or
TEARDOWN after, or INIT after a reset. CORE's turn in AWAIT, when nothing is scheduled or CORE is scheduled next, goes to
TEARDOWN. (The spec derives the shutdown latency: it is the spec's own inference.) Rests on 42_bridge_loop.md R226,
42_bridge_loop.md R202, 42_bridge_loop.md R218. -/
def Obligations.NoCycleStartsAfterShutdown : Prop :=
  ∀ s t : State, s.shutdown = true → step s = .next t →
    (t.st = .decode → s.st = .decode) ∧
    (s.st = .await → t.st = .await ∨ t.st = .teardown ∨ (NextIsReset s ∧ t.st = .init)) ∧
    (s.st = .await → (s.sched = [] ∨ ∃ rest, s.sched = .core :: rest) → t.st = .teardown)

/-- The FIFO changes only by one byte appended by RX, ten bytes removed from the head by DECODE, or reset, and stays within
RX_DEPTH. For every state with the invariant and every step that answers a next state: the FIFO is unchanged; or a delivered
byte was appended to a FIFO with room; or the state was DECODE, at least ten bytes were buffered and exactly the first ten
are gone; or a reset left it empty. It never exceeds RX_DEPTH bytes. Formalises R24. -/
def Obligations.FifoChangesOnlyByRxAndDecode : Prop :=
  ∀ s t : State, Inv s → step s = .next t →
    (t.rxq = s.rxq ∨
      (∃ b rest, s.sched = .rx b :: rest ∧ s.rxq.length < s.cfg.rxDepth ∧ t.rxq = s.rxq ++ [b]) ∨
      (s.st = .decode ∧ 10 ≤ s.rxq.length ∧ t.rxq = s.rxq.drop 10) ∨
      (NextIsReset s ∧ t.rxq = [])) ∧
    t.rxq.length ≤ t.cfg.rxDepth

/-- A good frame answered NORMAL makes the five requests, the acknowledge and the record, in that order, and ends in AWAIT.
From every state of the invariant in AWAIT with no shutdown and a good frame at the head of the FIFO, when the environment
answers each request with success, the override query with bit 0 = 0, and accepts the byte, fifteen turns bring the block
back to AWAIT; the events added are exactly the writeAnalog request, the query, the three flag writes, each followed by its
response, the byte 0xFF and the record with mode 0 and the frame's flags as applied; the ten bytes are gone and the rest of
the FIFO is left. The order is R223's shape, which the spec derives: it is the spec's own inference. The requests carry the
three function codes (notes/assumptions/15.md, PRESUMED: R99 marks the three function-code values as general knowledge, not
in the source). Rests on 42_bridge_loop.md R202 to R211, 42_bridge_loop.md R223, 30_encoding.md R103. -/
def Obligations.NormalCycleShape : Prop :=
  ∀ (s : State) (bs rest : List Byte) (coil : BitVec 16) (w1 w2 w3 w4 w5 : RspWord) (more : List Stimulus),
    Inv s → s.st = .await → s.shutdown = false → s.rxq = bs ++ rest → bs.length = 10 → byteAt bs 0 = 0xAA#8 →
    xorfold (bs.take 9) = byteAt bs 9 → s.cfg.overrideCoil = some coil →
    w1.ok = true → w2.ok = true → w2.rdata.getLsbD 0 = false → w3.ok = true → w4.ok = true → w5.ok = true →
    s.sched = [.core, .core, .core, .rsp w1, .core, .rsp w2, .core, .rsp w3, .core, .rsp w4, .core, .rsp w5, .accept, .core,
      .core] ++ more →
    ∃ (t : State) (r1 r2 r3 r4 r5 : Request) (rec : BitVec 152),
      Sys2Proof.core.run 15 s = .next t ∧
      IsAnalogWrite s.cfg [byteAt bs 1, byteAt bs 2, byteAt bs 3, byteAt bs 4, byteAt bs 5] r1 ∧
      IsCoilRead coil 1#5 r2 ∧
      IsCoilWrite s.cfg.inflagBase 8#5 (byteAt bs 6) r3 ∧
      IsCoilWrite s.cfg.outflagBase 8#5 (byteAt bs 7) r4 ∧
      IsCoilWrite s.cfg.outflag2Base 6#5 (lowSix (byteAt bs 8)) r5 ∧
      recordBytes rec = (bs.drop 1).take 7 ++ [(lowSix (byteAt bs 8)).setWidth 8, 0x00#8, byteAt bs 7,
        (lowSix (byteAt bs 8)).setWidth 8] ++ (List.range 8).map (fun j => s.wallclock.extractLsb' (8 * j) 8) ∧
      Adds s t [.req r1, .rsp w1, .req r2, .rsp w2, .req r3, .rsp w3, .req r4, .rsp w4, .req r5, .rsp w5, .tx 0xFF#8,
        .pst rec] ∧
      t.st = .await ∧ t.rxq = rest ∧ t.sched = more ∧ CycleCleared t

/-- A good frame answered OVERRIDE makes writeAnalog, the query and the actuator read, relays the image, writes no flag
coil, and ends in AWAIT. From every state of the invariant in AWAIT with no shutdown and a good frame at the head of the
FIFO, when the environment answers each request with success, the override query with bit 0 = 1, and accepts the three
bytes, thirteen turns bring the block back to AWAIT; the events added are exactly the writeAnalog request, the query and the
actuator read, each followed by its response, the bytes 0xBB and the two bytes of the padded image, and the record with mode
1 and the image as applied. The order is R223's shape, which the spec derives: it is the spec's own inference. The requests
carry the three function codes (notes/assumptions/15.md, PRESUMED: R99 marks the three function-code values as general
knowledge, not in the source). Rests on 42_bridge_loop.md R202 to R211, 42_bridge_loop.md R223, 30_encoding.md R103,
40_codec.md R141, 40_codec.md R142. -/
def Obligations.OverrideCycleShape : Prop :=
  ∀ (s : State) (bs rest : List Byte) (coil a : BitVec 16) (w1 w2 w3 : RspWord) (more : List Stimulus),
    Inv s → s.st = .await → s.shutdown = false → s.rxq = bs ++ rest → bs.length = 10 → byteAt bs 0 = 0xAA#8 →
    xorfold (bs.take 9) = byteAt bs 9 → s.cfg.overrideCoil = some coil →
    w1.ok = true → w2.ok = true → w2.rdata.getLsbD 0 = true → w3.ok = true → IsPadded w3.rdata s.cfg.actCount a →
    s.sched = [.core, .core, .core, .rsp w1, .core, .rsp w2, .core, .rsp w3, .accept, .accept, .accept, .core, .core] ++ more →
    ∃ (t : State) (r1 r2 r3 : Request) (rec : BitVec 152),
      Sys2Proof.core.run 13 s = .next t ∧
      IsAnalogWrite s.cfg [byteAt bs 1, byteAt bs 2, byteAt bs 3, byteAt bs 4, byteAt bs 5] r1 ∧
      IsCoilRead coil 1#5 r2 ∧
      IsCoilRead s.cfg.actBase (BitVec.ofNat 5 s.cfg.actCount) r3 ∧
      recordBytes rec = (bs.drop 1).take 7 ++ [(lowSix (byteAt bs 8)).setWidth 8, 0x01#8, a.extractLsb' 0 8,
        a.extractLsb' 8 8] ++ (List.range 8).map (fun j => s.wallclock.extractLsb' (8 * j) 8) ∧
      Adds s t [.req r1, .rsp w1, .req r2, .rsp w2, .req r3, .rsp w3, .tx 0xBB#8, .tx (a.extractLsb' 0 8),
        .tx (a.extractLsb' 8 8), .pst rec] ∧
      t.st = .await ∧ t.rxq = rest ∧ t.sched = more ∧ CycleCleared t

/-- The microcontroller's input flags, modeOverride and emergencyStop among them, change nothing but the coils and record
byte that carry them. DifferInInF relates two states that are equal but for the value inF holds (it holds one in both or in
neither) and the data the events carry of it: the low eight bits of the write data of an 8-coil write at INFLAG_BASE, and
byte 5 of a persist record. Any state whose inF holds a value is so related to the same state with any other value there. If
two states are so related and the step of the first answers next t, the step of the second answers a next state t' that is
so related to t: t' is t with only inF and that data changed, so the relation carries on to the step after. The 8-coil write
is told by its function code (notes/assumptions/15.md, PRESUMED: R99 marks the three function-code values as general
knowledge, not in the source). Rests on 40_codec.md R136, 41_gateway.md R172, 41_gateway.md R177, 30_encoding.md R103. -/
def Obligations.ControlIgnoresTheInputFlags : Prop :=
  (∀ (s : State) (v v' : Byte), s.inF = some v → DifferInInF s { s with inF := some v' }) ∧
  (∀ s s' t : State, DifferInInF s s' → step s = .next t → ∃ t', step s' = .next t' ∧ DifferInInF t t')

/-- Two cycles that hold the same frame in the same configuration issue identical requests. Take two states with equal
configuration and equal SensorFrame registers, no request outstanding in either, and one of the six operations. If the first
issues its request, the second issues the identical request: same fc, addr, cnt and write data, whatever else the states
hold. (The spec derives idempotence: it is the spec's own inference.) Rests on 42_bridge_loop.md section 4, 41_gateway.md
R171 to R176. -/
def Obligations.SameFrameSameRequests : Prop :=
  ∀ (s s' t : State) (i : Instr),
    i ∈ [Instr.writeAnalog, .writeInputFlags, .writeOutputFlags, .writeOutputFlags2, .readOverrideFlag, .readActuatorCoils] →
    s.pend = false → s'.pend = false → s.cfg = s'.cfg → s.level1 = s'.level1 → s.level2 = s'.level2 → s.tds = s'.tds →
    s.flow = s'.flow → s.pressure = s'.pressure → s.inF = s'.inF → s.outF = s'.outF → s.outF2 = s'.outF2 →
    exec i s = .next t →
    ∃ r t', exec i s' = .next t' ∧ Adds s t [.req r] ∧ Adds s' t' [.req r]

/-- Register ANALOG_BASE + k receives channel k, coil base + i receives flag i, rdata bit k of a read carries coil addr + k,
no other cell is touched. For the request that each operation issues: writeAnalog gives register ANALOG_BASE + k the
zero-extended channel k for k below 5 and gives no other register and no coil anything; the flag writes give coil base + i
bit i for i below 8, 8 and 6, and no other coil (OUTFLAG2_BASE + 6 and + 7 among them) and no register anything; no write
reads a coil. A coil read of n coils, n at most 16, carries coil base + k in bit k of the response's data for k below n,
carries no other coil, and writes no cell. The three kinds are told apart by their function codes (notes/assumptions/15.md,
PRESUMED: R99 marks the three function-code values as general knowledge, not in the source). Rests on 20_memory.md R68,
20_memory.md R72, 41_gateway.md R171 to R176. -/
def Obligations.RequestCellsCarryTheirData : Prop :=
  (∀ (cfg : Config) (channels : List Byte) (r : Request) (a : Nat), channels.length = 5 → IsAnalogWrite cfg channels r →
    (∀ k, a = cfg.analogBase.toNat + k → k < 5 → registerWritten r a = channels[k]?.map (BitVec.setWidth 16)) ∧
    ((a < cfg.analogBase.toNat ∨ cfg.analogBase.toNat + 5 ≤ a) → registerWritten r a = none) ∧ coilWritten r a = none ∧
    ∀ rdata, coilRead r rdata a = none) ∧
  (∀ (base : BitVec 16) (n : Nat) (coils : Byte) (r : Request) (a : Nat), n = 6 ∨ n = 8 →
    IsCoilWrite base (BitVec.ofNat 5 n) coils r →
    (∀ i, a = base.toNat + i → i < n → coilWritten r a = some (coils.getLsbD i)) ∧
    ((a < base.toNat ∨ base.toNat + n ≤ a) → coilWritten r a = none) ∧ registerWritten r a = none ∧
    ∀ rdata, coilRead r rdata a = none) ∧
  (∀ (base : BitVec 16) (n : Nat) (r : Request) (rdata : BitVec 16) (a : Nat), n ≤ 16 →
    IsCoilRead base (BitVec.ofNat 5 n) r →
    (∀ k, a = base.toNat + k → k < n → coilRead r rdata a = some (rdata.getLsbD k)) ∧
    ((a < base.toNat ∨ base.toNat + n ≤ a) → coilRead r rdata a = none) ∧ coilWritten r a = none ∧
    registerWritten r a = none)

/-- The reference oracle's coil is the value of the last coil write answered ok, and else what it was. After any history, a
request and its response: if the response is a success and the request writes coil a, the oracle's coil a is the written
value; otherwise it is what it was. That a write counts when it is answered ok is the model's choice
(notes/assumptions/17.md). Rests on 20_memory.md R79, 20_memory.md R68. -/
def Obligations.OracleAnswersTheLastWrite : Prop :=
  ∀ (initial : Bool) (history : List Event) (r : Request) (w : RspWord) (a : Nat),
    oracleCoil initial (history ++ [.req r, .rsp w]) a =
      if w.ok then (coilWritten r a).getD (oracleCoil initial history a) else oracleCoil initial history a
end

