-- ==== Sys2Proof/Laws/State.lean ====
section
/-! SUPPORT. One lemma per field per named update of State, each true by rfl, so that no proof unfolds a record update. -/

namespace Sys2Proof.Machine

@[simp] theorem emit_cfg (e : Event) (s : State) : (emit e s).cfg = s.cfg := rfl
@[simp] theorem emit_st (e : Event) (s : State) : (emit e s).st = s.st := rfl
@[simp] theorem emit_rxq (e : Event) (s : State) : (emit e s).rxq = s.rxq := rfl
@[simp] theorem emit_rxOverflow (e : Event) (s : State) : (emit e s).rxOverflow = s.rxOverflow := rfl
@[simp] theorem emit_shutdown (e : Event) (s : State) : (emit e s).shutdown = s.shutdown := rfl
@[simp] theorem emit_frm (e : Event) (s : State) : (emit e s).frm = s.frm := rfl
@[simp] theorem emit_level1 (e : Event) (s : State) : (emit e s).level1 = s.level1 := rfl
@[simp] theorem emit_level2 (e : Event) (s : State) : (emit e s).level2 = s.level2 := rfl
@[simp] theorem emit_tds (e : Event) (s : State) : (emit e s).tds = s.tds := rfl
@[simp] theorem emit_flow (e : Event) (s : State) : (emit e s).flow = s.flow := rfl
@[simp] theorem emit_pressure (e : Event) (s : State) : (emit e s).pressure = s.pressure := rfl
@[simp] theorem emit_inF (e : Event) (s : State) : (emit e s).inF = s.inF := rfl
@[simp] theorem emit_outF (e : Event) (s : State) : (emit e s).outF = s.outF := rfl
@[simp] theorem emit_outF2 (e : Event) (s : State) : (emit e s).outF2 = s.outF2 := rfl
@[simp] theorem emit_fv (e : Event) (s : State) : (emit e s).fv = s.fv := rfl
@[simp] theorem emit_ovr (e : Event) (s : State) : (emit e s).ovr = s.ovr := rfl
@[simp] theorem emit_ovrV (e : Event) (s : State) : (emit e s).ovrV = s.ovrV := rfl
@[simp] theorem emit_act (e : Event) (s : State) : (emit e s).act = s.act := rfl
@[simp] theorem emit_txb0 (e : Event) (s : State) : (emit e s).txb0 = s.txb0 := rfl
@[simp] theorem emit_txb1 (e : Event) (s : State) : (emit e s).txb1 = s.txb1 := rfl
@[simp] theorem emit_txb2 (e : Event) (s : State) : (emit e s).txb2 = s.txb2 := rfl
@[simp] theorem emit_txn (e : Event) (s : State) : (emit e s).txn = s.txn := rfl
@[simp] theorem emit_txi (e : Event) (s : State) : (emit e s).txi = s.txi := rfl
@[simp] theorem emit_pend (e : Event) (s : State) : (emit e s).pend = s.pend := rfl
@[simp] theorem emit_serLinkOk (e : Event) (s : State) : (emit e s).serLinkOk = s.serLinkOk := rfl
@[simp] theorem emit_plcLinkOk (e : Event) (s : State) : (emit e s).plcLinkOk = s.plcLinkOk := rfl
@[simp] theorem emit_wallclock (e : Event) (s : State) : (emit e s).wallclock = s.wallclock := rfl
@[simp] theorem emit_rspIn (e : Event) (s : State) : (emit e s).rspIn = s.rspIn := rfl
@[simp] theorem emit_sched (e : Event) (s : State) : (emit e s).sched = s.sched := rfl
@[simp] theorem emit_events (e : Event) (s : State) : (emit e s).events = s.events ++ [e] := rfl
@[simp] theorem emit_ret (e : Event) (s : State) : (emit e s).ret = s.ret := rfl

@[simp] theorem invalidate_cfg (s : State) : (invalidate s).cfg = s.cfg := rfl
@[simp] theorem invalidate_st (s : State) : (invalidate s).st = s.st := rfl
@[simp] theorem invalidate_rxq (s : State) : (invalidate s).rxq = s.rxq := rfl
@[simp] theorem invalidate_rxOverflow (s : State) : (invalidate s).rxOverflow = s.rxOverflow := rfl
@[simp] theorem invalidate_shutdown (s : State) : (invalidate s).shutdown = s.shutdown := rfl
@[simp] theorem invalidate_frm (s : State) : (invalidate s).frm = none := rfl
@[simp] theorem invalidate_level1 (s : State) : (invalidate s).level1 = none := rfl
@[simp] theorem invalidate_level2 (s : State) : (invalidate s).level2 = none := rfl
@[simp] theorem invalidate_tds (s : State) : (invalidate s).tds = none := rfl
@[simp] theorem invalidate_flow (s : State) : (invalidate s).flow = none := rfl
@[simp] theorem invalidate_pressure (s : State) : (invalidate s).pressure = none := rfl
@[simp] theorem invalidate_inF (s : State) : (invalidate s).inF = none := rfl
@[simp] theorem invalidate_outF (s : State) : (invalidate s).outF = none := rfl
@[simp] theorem invalidate_outF2 (s : State) : (invalidate s).outF2 = none := rfl
@[simp] theorem invalidate_fv (s : State) : (invalidate s).fv = false := rfl
@[simp] theorem invalidate_ovr (s : State) : (invalidate s).ovr = none := rfl
@[simp] theorem invalidate_ovrV (s : State) : (invalidate s).ovrV = false := rfl
@[simp] theorem invalidate_act (s : State) : (invalidate s).act = none := rfl
@[simp] theorem invalidate_txb0 (s : State) : (invalidate s).txb0 = none := rfl
@[simp] theorem invalidate_txb1 (s : State) : (invalidate s).txb1 = none := rfl
@[simp] theorem invalidate_txb2 (s : State) : (invalidate s).txb2 = none := rfl
@[simp] theorem invalidate_txn (s : State) : (invalidate s).txn = 0 := rfl
@[simp] theorem invalidate_txi (s : State) : (invalidate s).txi = 0 := rfl
@[simp] theorem invalidate_pend (s : State) : (invalidate s).pend = s.pend := rfl
@[simp] theorem invalidate_serLinkOk (s : State) : (invalidate s).serLinkOk = s.serLinkOk := rfl
@[simp] theorem invalidate_plcLinkOk (s : State) : (invalidate s).plcLinkOk = s.plcLinkOk := rfl
@[simp] theorem invalidate_wallclock (s : State) : (invalidate s).wallclock = s.wallclock := rfl
@[simp] theorem invalidate_rspIn (s : State) : (invalidate s).rspIn = s.rspIn := rfl
@[simp] theorem invalidate_sched (s : State) : (invalidate s).sched = s.sched := rfl
@[simp] theorem invalidate_events (s : State) : (invalidate s).events = s.events := rfl
@[simp] theorem invalidate_ret (s : State) : (invalidate s).ret = s.ret := rfl

@[simp] theorem enterAwait_cfg (s : State) : (enterAwait s).cfg = s.cfg := rfl
@[simp] theorem enterAwait_st (s : State) : (enterAwait s).st = .await := rfl
@[simp] theorem enterAwait_rxq (s : State) : (enterAwait s).rxq = s.rxq := rfl
@[simp] theorem enterAwait_rxOverflow (s : State) : (enterAwait s).rxOverflow = s.rxOverflow := rfl
@[simp] theorem enterAwait_shutdown (s : State) : (enterAwait s).shutdown = s.shutdown := rfl
@[simp] theorem enterAwait_frm (s : State) : (enterAwait s).frm = none := rfl
@[simp] theorem enterAwait_level1 (s : State) : (enterAwait s).level1 = none := rfl
@[simp] theorem enterAwait_level2 (s : State) : (enterAwait s).level2 = none := rfl
@[simp] theorem enterAwait_tds (s : State) : (enterAwait s).tds = none := rfl
@[simp] theorem enterAwait_flow (s : State) : (enterAwait s).flow = none := rfl
@[simp] theorem enterAwait_pressure (s : State) : (enterAwait s).pressure = none := rfl
@[simp] theorem enterAwait_inF (s : State) : (enterAwait s).inF = none := rfl
@[simp] theorem enterAwait_outF (s : State) : (enterAwait s).outF = none := rfl
@[simp] theorem enterAwait_outF2 (s : State) : (enterAwait s).outF2 = none := rfl
@[simp] theorem enterAwait_fv (s : State) : (enterAwait s).fv = false := rfl
@[simp] theorem enterAwait_ovr (s : State) : (enterAwait s).ovr = none := rfl
@[simp] theorem enterAwait_ovrV (s : State) : (enterAwait s).ovrV = false := rfl
@[simp] theorem enterAwait_act (s : State) : (enterAwait s).act = none := rfl
@[simp] theorem enterAwait_txb0 (s : State) : (enterAwait s).txb0 = none := rfl
@[simp] theorem enterAwait_txb1 (s : State) : (enterAwait s).txb1 = none := rfl
@[simp] theorem enterAwait_txb2 (s : State) : (enterAwait s).txb2 = none := rfl
@[simp] theorem enterAwait_txn (s : State) : (enterAwait s).txn = 0 := rfl
@[simp] theorem enterAwait_txi (s : State) : (enterAwait s).txi = 0 := rfl
@[simp] theorem enterAwait_pend (s : State) : (enterAwait s).pend = s.pend := rfl
@[simp] theorem enterAwait_serLinkOk (s : State) : (enterAwait s).serLinkOk = s.serLinkOk := rfl
@[simp] theorem enterAwait_plcLinkOk (s : State) : (enterAwait s).plcLinkOk = s.plcLinkOk := rfl
@[simp] theorem enterAwait_wallclock (s : State) : (enterAwait s).wallclock = s.wallclock := rfl
@[simp] theorem enterAwait_rspIn (s : State) : (enterAwait s).rspIn = s.rspIn := rfl
@[simp] theorem enterAwait_sched (s : State) : (enterAwait s).sched = s.sched := rfl
@[simp] theorem enterAwait_events (s : State) : (enterAwait s).events = s.events := rfl
@[simp] theorem enterAwait_ret (s : State) : (enterAwait s).ret = s.ret := rfl

@[simp] theorem setRxOverflow_cfg (s : State) : (setRxOverflow s).cfg = s.cfg := rfl
@[simp] theorem setRxOverflow_st (s : State) : (setRxOverflow s).st = s.st := rfl
@[simp] theorem setRxOverflow_rxq (s : State) : (setRxOverflow s).rxq = s.rxq := rfl
@[simp] theorem setRxOverflow_rxOverflow (s : State) : (setRxOverflow s).rxOverflow = true := rfl
@[simp] theorem setRxOverflow_shutdown (s : State) : (setRxOverflow s).shutdown = s.shutdown := rfl
@[simp] theorem setRxOverflow_frm (s : State) : (setRxOverflow s).frm = s.frm := rfl
@[simp] theorem setRxOverflow_level1 (s : State) : (setRxOverflow s).level1 = s.level1 := rfl
@[simp] theorem setRxOverflow_level2 (s : State) : (setRxOverflow s).level2 = s.level2 := rfl
@[simp] theorem setRxOverflow_tds (s : State) : (setRxOverflow s).tds = s.tds := rfl
@[simp] theorem setRxOverflow_flow (s : State) : (setRxOverflow s).flow = s.flow := rfl
@[simp] theorem setRxOverflow_pressure (s : State) : (setRxOverflow s).pressure = s.pressure := rfl
@[simp] theorem setRxOverflow_inF (s : State) : (setRxOverflow s).inF = s.inF := rfl
@[simp] theorem setRxOverflow_outF (s : State) : (setRxOverflow s).outF = s.outF := rfl
@[simp] theorem setRxOverflow_outF2 (s : State) : (setRxOverflow s).outF2 = s.outF2 := rfl
@[simp] theorem setRxOverflow_fv (s : State) : (setRxOverflow s).fv = s.fv := rfl
@[simp] theorem setRxOverflow_ovr (s : State) : (setRxOverflow s).ovr = s.ovr := rfl
@[simp] theorem setRxOverflow_ovrV (s : State) : (setRxOverflow s).ovrV = s.ovrV := rfl
@[simp] theorem setRxOverflow_act (s : State) : (setRxOverflow s).act = s.act := rfl
@[simp] theorem setRxOverflow_txb0 (s : State) : (setRxOverflow s).txb0 = s.txb0 := rfl
@[simp] theorem setRxOverflow_txb1 (s : State) : (setRxOverflow s).txb1 = s.txb1 := rfl
@[simp] theorem setRxOverflow_txb2 (s : State) : (setRxOverflow s).txb2 = s.txb2 := rfl
@[simp] theorem setRxOverflow_txn (s : State) : (setRxOverflow s).txn = s.txn := rfl
@[simp] theorem setRxOverflow_txi (s : State) : (setRxOverflow s).txi = s.txi := rfl
@[simp] theorem setRxOverflow_pend (s : State) : (setRxOverflow s).pend = s.pend := rfl
@[simp] theorem setRxOverflow_serLinkOk (s : State) : (setRxOverflow s).serLinkOk = s.serLinkOk := rfl
@[simp] theorem setRxOverflow_plcLinkOk (s : State) : (setRxOverflow s).plcLinkOk = s.plcLinkOk := rfl
@[simp] theorem setRxOverflow_wallclock (s : State) : (setRxOverflow s).wallclock = s.wallclock := rfl
@[simp] theorem setRxOverflow_rspIn (s : State) : (setRxOverflow s).rspIn = s.rspIn := rfl
@[simp] theorem setRxOverflow_sched (s : State) : (setRxOverflow s).sched = s.sched := rfl
@[simp] theorem setRxOverflow_events (s : State) : (setRxOverflow s).events = s.events := rfl
@[simp] theorem setRxOverflow_ret (s : State) : (setRxOverflow s).ret = s.ret := rfl

@[simp] theorem setShutdown_cfg (s : State) : (setShutdown s).cfg = s.cfg := rfl
@[simp] theorem setShutdown_st (s : State) : (setShutdown s).st = s.st := rfl
@[simp] theorem setShutdown_rxq (s : State) : (setShutdown s).rxq = s.rxq := rfl
@[simp] theorem setShutdown_rxOverflow (s : State) : (setShutdown s).rxOverflow = s.rxOverflow := rfl
@[simp] theorem setShutdown_shutdown (s : State) : (setShutdown s).shutdown = true := rfl
@[simp] theorem setShutdown_frm (s : State) : (setShutdown s).frm = s.frm := rfl
@[simp] theorem setShutdown_level1 (s : State) : (setShutdown s).level1 = s.level1 := rfl
@[simp] theorem setShutdown_level2 (s : State) : (setShutdown s).level2 = s.level2 := rfl
@[simp] theorem setShutdown_tds (s : State) : (setShutdown s).tds = s.tds := rfl
@[simp] theorem setShutdown_flow (s : State) : (setShutdown s).flow = s.flow := rfl
@[simp] theorem setShutdown_pressure (s : State) : (setShutdown s).pressure = s.pressure := rfl
@[simp] theorem setShutdown_inF (s : State) : (setShutdown s).inF = s.inF := rfl
@[simp] theorem setShutdown_outF (s : State) : (setShutdown s).outF = s.outF := rfl
@[simp] theorem setShutdown_outF2 (s : State) : (setShutdown s).outF2 = s.outF2 := rfl
@[simp] theorem setShutdown_fv (s : State) : (setShutdown s).fv = s.fv := rfl
@[simp] theorem setShutdown_ovr (s : State) : (setShutdown s).ovr = s.ovr := rfl
@[simp] theorem setShutdown_ovrV (s : State) : (setShutdown s).ovrV = s.ovrV := rfl
@[simp] theorem setShutdown_act (s : State) : (setShutdown s).act = s.act := rfl
@[simp] theorem setShutdown_txb0 (s : State) : (setShutdown s).txb0 = s.txb0 := rfl
@[simp] theorem setShutdown_txb1 (s : State) : (setShutdown s).txb1 = s.txb1 := rfl
@[simp] theorem setShutdown_txb2 (s : State) : (setShutdown s).txb2 = s.txb2 := rfl
@[simp] theorem setShutdown_txn (s : State) : (setShutdown s).txn = s.txn := rfl
@[simp] theorem setShutdown_txi (s : State) : (setShutdown s).txi = s.txi := rfl
@[simp] theorem setShutdown_pend (s : State) : (setShutdown s).pend = s.pend := rfl
@[simp] theorem setShutdown_serLinkOk (s : State) : (setShutdown s).serLinkOk = s.serLinkOk := rfl
@[simp] theorem setShutdown_plcLinkOk (s : State) : (setShutdown s).plcLinkOk = s.plcLinkOk := rfl
@[simp] theorem setShutdown_wallclock (s : State) : (setShutdown s).wallclock = s.wallclock := rfl
@[simp] theorem setShutdown_rspIn (s : State) : (setShutdown s).rspIn = s.rspIn := rfl
@[simp] theorem setShutdown_sched (s : State) : (setShutdown s).sched = s.sched := rfl
@[simp] theorem setShutdown_events (s : State) : (setShutdown s).events = s.events := rfl
@[simp] theorem setShutdown_ret (s : State) : (setShutdown s).ret = s.ret := rfl

@[simp] theorem setPend_cfg (s : State) : (setPend s).cfg = s.cfg := rfl
@[simp] theorem setPend_st (s : State) : (setPend s).st = s.st := rfl
@[simp] theorem setPend_rxq (s : State) : (setPend s).rxq = s.rxq := rfl
@[simp] theorem setPend_rxOverflow (s : State) : (setPend s).rxOverflow = s.rxOverflow := rfl
@[simp] theorem setPend_shutdown (s : State) : (setPend s).shutdown = s.shutdown := rfl
@[simp] theorem setPend_frm (s : State) : (setPend s).frm = s.frm := rfl
@[simp] theorem setPend_level1 (s : State) : (setPend s).level1 = s.level1 := rfl
@[simp] theorem setPend_level2 (s : State) : (setPend s).level2 = s.level2 := rfl
@[simp] theorem setPend_tds (s : State) : (setPend s).tds = s.tds := rfl
@[simp] theorem setPend_flow (s : State) : (setPend s).flow = s.flow := rfl
@[simp] theorem setPend_pressure (s : State) : (setPend s).pressure = s.pressure := rfl
@[simp] theorem setPend_inF (s : State) : (setPend s).inF = s.inF := rfl
@[simp] theorem setPend_outF (s : State) : (setPend s).outF = s.outF := rfl
@[simp] theorem setPend_outF2 (s : State) : (setPend s).outF2 = s.outF2 := rfl
@[simp] theorem setPend_fv (s : State) : (setPend s).fv = s.fv := rfl
@[simp] theorem setPend_ovr (s : State) : (setPend s).ovr = s.ovr := rfl
@[simp] theorem setPend_ovrV (s : State) : (setPend s).ovrV = s.ovrV := rfl
@[simp] theorem setPend_act (s : State) : (setPend s).act = s.act := rfl
@[simp] theorem setPend_txb0 (s : State) : (setPend s).txb0 = s.txb0 := rfl
@[simp] theorem setPend_txb1 (s : State) : (setPend s).txb1 = s.txb1 := rfl
@[simp] theorem setPend_txb2 (s : State) : (setPend s).txb2 = s.txb2 := rfl
@[simp] theorem setPend_txn (s : State) : (setPend s).txn = s.txn := rfl
@[simp] theorem setPend_txi (s : State) : (setPend s).txi = s.txi := rfl
@[simp] theorem setPend_pend (s : State) : (setPend s).pend = true := rfl
@[simp] theorem setPend_serLinkOk (s : State) : (setPend s).serLinkOk = s.serLinkOk := rfl
@[simp] theorem setPend_plcLinkOk (s : State) : (setPend s).plcLinkOk = s.plcLinkOk := rfl
@[simp] theorem setPend_wallclock (s : State) : (setPend s).wallclock = s.wallclock := rfl
@[simp] theorem setPend_rspIn (s : State) : (setPend s).rspIn = none := rfl
@[simp] theorem setPend_sched (s : State) : (setPend s).sched = s.sched := rfl
@[simp] theorem setPend_events (s : State) : (setPend s).events = s.events := rfl
@[simp] theorem setPend_ret (s : State) : (setPend s).ret = none := rfl

@[simp] theorem clearPend_cfg (s : State) : (clearPend s).cfg = s.cfg := rfl
@[simp] theorem clearPend_st (s : State) : (clearPend s).st = s.st := rfl
@[simp] theorem clearPend_rxq (s : State) : (clearPend s).rxq = s.rxq := rfl
@[simp] theorem clearPend_rxOverflow (s : State) : (clearPend s).rxOverflow = s.rxOverflow := rfl
@[simp] theorem clearPend_shutdown (s : State) : (clearPend s).shutdown = s.shutdown := rfl
@[simp] theorem clearPend_frm (s : State) : (clearPend s).frm = s.frm := rfl
@[simp] theorem clearPend_level1 (s : State) : (clearPend s).level1 = s.level1 := rfl
@[simp] theorem clearPend_level2 (s : State) : (clearPend s).level2 = s.level2 := rfl
@[simp] theorem clearPend_tds (s : State) : (clearPend s).tds = s.tds := rfl
@[simp] theorem clearPend_flow (s : State) : (clearPend s).flow = s.flow := rfl
@[simp] theorem clearPend_pressure (s : State) : (clearPend s).pressure = s.pressure := rfl
@[simp] theorem clearPend_inF (s : State) : (clearPend s).inF = s.inF := rfl
@[simp] theorem clearPend_outF (s : State) : (clearPend s).outF = s.outF := rfl
@[simp] theorem clearPend_outF2 (s : State) : (clearPend s).outF2 = s.outF2 := rfl
@[simp] theorem clearPend_fv (s : State) : (clearPend s).fv = s.fv := rfl
@[simp] theorem clearPend_ovr (s : State) : (clearPend s).ovr = s.ovr := rfl
@[simp] theorem clearPend_ovrV (s : State) : (clearPend s).ovrV = s.ovrV := rfl
@[simp] theorem clearPend_act (s : State) : (clearPend s).act = s.act := rfl
@[simp] theorem clearPend_txb0 (s : State) : (clearPend s).txb0 = s.txb0 := rfl
@[simp] theorem clearPend_txb1 (s : State) : (clearPend s).txb1 = s.txb1 := rfl
@[simp] theorem clearPend_txb2 (s : State) : (clearPend s).txb2 = s.txb2 := rfl
@[simp] theorem clearPend_txn (s : State) : (clearPend s).txn = s.txn := rfl
@[simp] theorem clearPend_txi (s : State) : (clearPend s).txi = s.txi := rfl
@[simp] theorem clearPend_pend (s : State) : (clearPend s).pend = false := rfl
@[simp] theorem clearPend_serLinkOk (s : State) : (clearPend s).serLinkOk = s.serLinkOk := rfl
@[simp] theorem clearPend_plcLinkOk (s : State) : (clearPend s).plcLinkOk = s.plcLinkOk := rfl
@[simp] theorem clearPend_wallclock (s : State) : (clearPend s).wallclock = s.wallclock := rfl
@[simp] theorem clearPend_rspIn (s : State) : (clearPend s).rspIn = none := rfl
@[simp] theorem clearPend_sched (s : State) : (clearPend s).sched = s.sched := rfl
@[simp] theorem clearPend_events (s : State) : (clearPend s).events = s.events := rfl
@[simp] theorem clearPend_ret (s : State) : (clearPend s).ret = s.ret := rfl

@[simp] theorem setOvr_cfg (v : Bool) (s : State) : (setOvr v s).cfg = s.cfg := rfl
@[simp] theorem setOvr_st (v : Bool) (s : State) : (setOvr v s).st = s.st := rfl
@[simp] theorem setOvr_rxq (v : Bool) (s : State) : (setOvr v s).rxq = s.rxq := rfl
@[simp] theorem setOvr_rxOverflow (v : Bool) (s : State) : (setOvr v s).rxOverflow = s.rxOverflow := rfl
@[simp] theorem setOvr_shutdown (v : Bool) (s : State) : (setOvr v s).shutdown = s.shutdown := rfl
@[simp] theorem setOvr_frm (v : Bool) (s : State) : (setOvr v s).frm = s.frm := rfl
@[simp] theorem setOvr_level1 (v : Bool) (s : State) : (setOvr v s).level1 = s.level1 := rfl
@[simp] theorem setOvr_level2 (v : Bool) (s : State) : (setOvr v s).level2 = s.level2 := rfl
@[simp] theorem setOvr_tds (v : Bool) (s : State) : (setOvr v s).tds = s.tds := rfl
@[simp] theorem setOvr_flow (v : Bool) (s : State) : (setOvr v s).flow = s.flow := rfl
@[simp] theorem setOvr_pressure (v : Bool) (s : State) : (setOvr v s).pressure = s.pressure := rfl
@[simp] theorem setOvr_inF (v : Bool) (s : State) : (setOvr v s).inF = s.inF := rfl
@[simp] theorem setOvr_outF (v : Bool) (s : State) : (setOvr v s).outF = s.outF := rfl
@[simp] theorem setOvr_outF2 (v : Bool) (s : State) : (setOvr v s).outF2 = s.outF2 := rfl
@[simp] theorem setOvr_fv (v : Bool) (s : State) : (setOvr v s).fv = s.fv := rfl
@[simp] theorem setOvr_ovr (v : Bool) (s : State) : (setOvr v s).ovr = some v := rfl
@[simp] theorem setOvr_ovrV (v : Bool) (s : State) : (setOvr v s).ovrV = true := rfl
@[simp] theorem setOvr_act (v : Bool) (s : State) : (setOvr v s).act = s.act := rfl
@[simp] theorem setOvr_txb0 (v : Bool) (s : State) : (setOvr v s).txb0 = s.txb0 := rfl
@[simp] theorem setOvr_txb1 (v : Bool) (s : State) : (setOvr v s).txb1 = s.txb1 := rfl
@[simp] theorem setOvr_txb2 (v : Bool) (s : State) : (setOvr v s).txb2 = s.txb2 := rfl
@[simp] theorem setOvr_txn (v : Bool) (s : State) : (setOvr v s).txn = s.txn := rfl
@[simp] theorem setOvr_txi (v : Bool) (s : State) : (setOvr v s).txi = s.txi := rfl
@[simp] theorem setOvr_pend (v : Bool) (s : State) : (setOvr v s).pend = s.pend := rfl
@[simp] theorem setOvr_serLinkOk (v : Bool) (s : State) : (setOvr v s).serLinkOk = s.serLinkOk := rfl
@[simp] theorem setOvr_plcLinkOk (v : Bool) (s : State) : (setOvr v s).plcLinkOk = s.plcLinkOk := rfl
@[simp] theorem setOvr_wallclock (v : Bool) (s : State) : (setOvr v s).wallclock = s.wallclock := rfl
@[simp] theorem setOvr_rspIn (v : Bool) (s : State) : (setOvr v s).rspIn = s.rspIn := rfl
@[simp] theorem setOvr_sched (v : Bool) (s : State) : (setOvr v s).sched = s.sched := rfl
@[simp] theorem setOvr_events (v : Bool) (s : State) : (setOvr v s).events = s.events := rfl
@[simp] theorem setOvr_ret (v : Bool) (s : State) : (setOvr v s).ret = s.ret := rfl

@[simp] theorem loadReply_cfg (bs : List Byte) (s : State) : (loadReply bs s).cfg = s.cfg := rfl
@[simp] theorem loadReply_st (bs : List Byte) (s : State) : (loadReply bs s).st = .sendReply := rfl
@[simp] theorem loadReply_rxq (bs : List Byte) (s : State) : (loadReply bs s).rxq = s.rxq := rfl
@[simp] theorem loadReply_rxOverflow (bs : List Byte) (s : State) : (loadReply bs s).rxOverflow = s.rxOverflow := rfl
@[simp] theorem loadReply_shutdown (bs : List Byte) (s : State) : (loadReply bs s).shutdown = s.shutdown := rfl
@[simp] theorem loadReply_frm (bs : List Byte) (s : State) : (loadReply bs s).frm = s.frm := rfl
@[simp] theorem loadReply_level1 (bs : List Byte) (s : State) : (loadReply bs s).level1 = s.level1 := rfl
@[simp] theorem loadReply_level2 (bs : List Byte) (s : State) : (loadReply bs s).level2 = s.level2 := rfl
@[simp] theorem loadReply_tds (bs : List Byte) (s : State) : (loadReply bs s).tds = s.tds := rfl
@[simp] theorem loadReply_flow (bs : List Byte) (s : State) : (loadReply bs s).flow = s.flow := rfl
@[simp] theorem loadReply_pressure (bs : List Byte) (s : State) : (loadReply bs s).pressure = s.pressure := rfl
@[simp] theorem loadReply_inF (bs : List Byte) (s : State) : (loadReply bs s).inF = s.inF := rfl
@[simp] theorem loadReply_outF (bs : List Byte) (s : State) : (loadReply bs s).outF = s.outF := rfl
@[simp] theorem loadReply_outF2 (bs : List Byte) (s : State) : (loadReply bs s).outF2 = s.outF2 := rfl
@[simp] theorem loadReply_fv (bs : List Byte) (s : State) : (loadReply bs s).fv = s.fv := rfl
@[simp] theorem loadReply_ovr (bs : List Byte) (s : State) : (loadReply bs s).ovr = s.ovr := rfl
@[simp] theorem loadReply_ovrV (bs : List Byte) (s : State) : (loadReply bs s).ovrV = s.ovrV := rfl
@[simp] theorem loadReply_act (bs : List Byte) (s : State) : (loadReply bs s).act = s.act := rfl
@[simp] theorem loadReply_txb0 (bs : List Byte) (s : State) : (loadReply bs s).txb0 = (bs[0]? <|> s.txb0) := rfl
@[simp] theorem loadReply_txb1 (bs : List Byte) (s : State) : (loadReply bs s).txb1 = (bs[1]? <|> s.txb1) := rfl
@[simp] theorem loadReply_txb2 (bs : List Byte) (s : State) : (loadReply bs s).txb2 = (bs[2]? <|> s.txb2) := rfl
@[simp] theorem loadReply_txn (bs : List Byte) (s : State) : (loadReply bs s).txn = bs.length := rfl
@[simp] theorem loadReply_txi (bs : List Byte) (s : State) : (loadReply bs s).txi = 0 := rfl
@[simp] theorem loadReply_pend (bs : List Byte) (s : State) : (loadReply bs s).pend = s.pend := rfl
@[simp] theorem loadReply_serLinkOk (bs : List Byte) (s : State) : (loadReply bs s).serLinkOk = s.serLinkOk := rfl
@[simp] theorem loadReply_plcLinkOk (bs : List Byte) (s : State) : (loadReply bs s).plcLinkOk = s.plcLinkOk := rfl
@[simp] theorem loadReply_wallclock (bs : List Byte) (s : State) : (loadReply bs s).wallclock = s.wallclock := rfl
@[simp] theorem loadReply_rspIn (bs : List Byte) (s : State) : (loadReply bs s).rspIn = s.rspIn := rfl
@[simp] theorem loadReply_sched (bs : List Byte) (s : State) : (loadReply bs s).sched = s.sched := rfl
@[simp] theorem loadReply_events (bs : List Byte) (s : State) : (loadReply bs s).events = s.events := rfl
@[simp] theorem loadReply_ret (bs : List Byte) (s : State) : (loadReply bs s).ret = s.ret := rfl

@[simp] theorem logEmit_eq_emit (w : BitVec 32) (s : State) : logEmit w s = emit (.log w) s := rfl
@[simp] theorem persistEmit_eq_emit (rec : BitVec 152) (s : State) : persistEmit rec s = emit (.pst rec) s := rfl
@[simp] theorem closeLink_eq_emit (l : Link) (s : State) : closeLink l s = emit (.close l) s := rfl
@[simp] theorem rxPop_fst (n : Nat) (s : State) : (rxPop n s).1 = s.rxq.take n := rfl
@[simp] theorem rxPop_snd (n : Nat) (s : State) : (rxPop n s).2 = { s with rxq := s.rxq.drop n } := rfl

end Sys2Proof.Machine
end

