-- ==== Sys2Proof/Laws/Ops.lean ====
section
/-! SUPPORT. For each shared operation one lemma that says once everything it can do; proofs cite these instead of unfolding
the operation. -/

namespace Sys2Proof.Machine

/-! ### Reading a register -/

@[simp] theorem readReg_some {α β : Type} (r : Reg) (x : α) (k : α → Host.Outcome β Fault Refusal) :
    readReg r (some x) k = k x := rfl

@[simp] theorem readReg_none {α β : Type} (r : Reg) (k : α → Host.Outcome β Fault Refusal) :
    readReg r none k = .fault (.noValue r) := rfl

/-- A read that goes on found a value. -/
theorem readReg_next {α β : Type} {r : Reg} {v : Option α} {k : α → Host.Outcome β Fault Refusal} {y : β}
    (h : readReg r v k = .next y) : ∃ x, v = some x ∧ k x = .next y := by
  cases v with
  | none => exact absurd h (by simp)
  | some x => exact ⟨x, rfl, h⟩

/-! ### The codec -/

/-- Everything `codecDecode` can answer (40_codec.md R132). -/
theorem codecDecode_cases (bs : List Byte) :
    (bs.length ≠ 10 ∧ codecDecode bs = .error (.badLength bs.length)) ∨
    (bs.length = 10 ∧ byteAt bs 0 ≠ 0xAA#8 ∧ codecDecode bs = .error (.badStartByte (byteAt bs 0))) ∨
    (bs.length = 10 ∧ byteAt bs 0 = 0xAA#8 ∧ xorfold (bs.take 9) ≠ byteAt bs 9 ∧
      codecDecode bs = .error (.checksumMismatch (xorfold (bs.take 9)) (byteAt bs 9))) ∨
    (bs.length = 10 ∧ byteAt bs 0 = 0xAA#8 ∧ xorfold (bs.take 9) = byteAt bs 9 ∧ ∃ f, codecDecode bs = .ok f) := by
  unfold codecDecode
  split
  · exact .inl ⟨‹_›, rfl⟩
  · rename_i hlen
    have hlen : bs.length = 10 := by omega
    split
    · exact .inr (.inl ⟨hlen, ‹_›, rfl⟩)
    · rename_i hstart
      have hstart : byteAt bs 0 = 0xAA#8 := by simpa using hstart
      split
      · exact .inr (.inr (.inl ⟨hlen, hstart, ‹_›, rfl⟩))
      · rename_i hsum
        exact .inr (.inr (.inr ⟨hlen, hstart, by simpa using hsum, _, rfl⟩))

/-- Sixteen booleans are always packed (60_exceptions.md R255). -/
theorem encodeOverride_of_length {c : List Bool} (h : c.length = 16) :
    encodeOverride c = .ok [0xBB#8, pack8 (c.take 8), pack8 (c.drop 8)] := by
  simp [encodeOverride, h]

@[simp] theorem bitsOf8_length (v : Byte) : (bitsOf8 v).length = 8 := rfl

@[simp] theorem coilsOf_length (a : BitVec 16) : (coilsOf a).length = 16 := rfl

@[simp] theorem unpack16_length (f g : Byte) : (unpack16 f g).length = 16 := rfl

/-- Packing the bits of a byte gives the byte back (40_codec.md R139, R140). -/
@[simp] theorem pack8_bitsOf8 (v : Byte) : pack8 (bitsOf8 v) = v := by
  revert v; decide +revert

/-- The reply of an image: [0xBB, a[7:0], a[15:8]] (R142). -/
@[simp] theorem encodeOverride_coilsOf (a : BitVec 16) :
    encodeOverride (coilsOf a) = .ok [0xBB#8, a.extractLsb' 0 8, a.extractLsb' 8 8] := by
  have hlo : (coilsOf a).take 8 = bitsOf8 (a.extractLsb' 0 8) := rfl
  have hhi : (coilsOf a).drop 8 = bitsOf8 (a.extractLsb' 8 8) := rfl
  rw [encodeOverride_of_length (coilsOf_length a), hlo, hhi, pack8_bitsOf8, pack8_bitsOf8]

/-- The reply of two payload bytes. -/
@[simp] theorem encodeOverride_unpack16 (f g : Byte) : encodeOverride (unpack16 f g) = .ok [0xBB#8, f, g] := by
  have hlo : (unpack16 f g).take 8 = bitsOf8 f := rfl
  have hhi : (unpack16 f g).drop 8 = bitsOf8 g := rfl
  rw [encodeOverride_of_length (unpack16_length f g), hlo, hhi, pack8_bitsOf8, pack8_bitsOf8]

/-! ### Error entry and the popped group -/

/-- Error entry emits one log word and changes control (60_exceptions.md R250). -/
theorem takeError_cases (e : BlockError) (s : State) :
    ((∃ d, e = .framing d) ∧ takeError e s = enterAwait (emit (.log (errorWord e)) s)) ∨
    ((∃ op c, e = .gateway op c) ∧ takeError e s = { emit (.log (errorWord e)) s with st := .backoff }) ∨
    ((∃ a b, e = .startup a b) ∧ takeError e s = { emit (.log (errorWord e)) s with st := .failed }) := by
  cases e with
  | framing d => exact .inl ⟨⟨d, rfl⟩, rfl⟩
  | gateway op c => exact .inr (.inl ⟨⟨op, c, rfl⟩, rfl⟩)
  | startup a b => exact .inr (.inr ⟨⟨a, b, rfl⟩, rfl⟩)

/-- A popped group either loads the SensorFrame registers and goes to WR_ANALOG, or takes its framing error
(42_bridge_loop.md R203). -/
theorem decodeBytes_cases (bs : List Byte) (s : State) :
    (∃ f, codecDecode bs = .ok f ∧ decodeBytes bs s =
      { s with
        frm := some bs
        level1 := some f.level1, level2 := some f.level2, tds := some f.tds, flow := some f.flow, pressure := some f.pressure
        inF := some (byteAt bs 6), outF := some (byteAt bs 7), outF2 := some (lowSix (byteAt bs 8))
        fv := true, st := .wrAnalog }) ∨
    (∃ e, codecDecode bs = .error e ∧ decodeBytes bs s = enterAwait (emit (.log (errorWord (.framing e))) s)) := by
  cases h : codecDecode bs with
  | ok f => exact .inl ⟨f, rfl, by simp [decodeBytes, h]⟩
  | error e => exact .inr ⟨e, rfl, by simp [decodeBytes, h, takeError, enterAwait, invalidate, emit]⟩

/-! ### A PLC call -/

/-- Everything a PLC call can do (20_memory.md R67): hold, return the response, issue the request, or stop on an operand. -/
theorem plcCall_cases (op : GatewayOp) (s : State) :
    (s.pend = true ∧ s.rspIn = none ∧ plcCall op s = .next (.waiting s)) ∨
    (∃ r, s.pend = true ∧ s.rspIn = some r ∧ plcCall op s = .next (.returned (responseOf r) (clearPend s))) ∨
    (∃ rq, s.pend = false ∧ operandsOf op s = .next rq ∧ plcCall op s = .next (.waiting (setPend (emit (.req rq) s)))) ∨
    (∃ f, s.pend = false ∧ operandsOf op s = .fault f ∧ plcCall op s = .fault f) ∨
    (∃ r, s.pend = false ∧ operandsOf op s = .refused r ∧ plcCall op s = .refused r) := by
  unfold plcCall
  cases hp : s.pend with
  | true =>
    cases hr : s.rspIn with
    | none => exact .inl ⟨rfl, rfl, rfl⟩
    | some r => exact .inr (.inl ⟨r, rfl, rfl, rfl⟩)
  | false =>
    cases ho : operandsOf op s with
    | next rq => exact .inr (.inr (.inl ⟨rq, rfl, rfl, rfl⟩))
    | fault f => exact .inr (.inr (.inr (.inl ⟨f, rfl, rfl, rfl⟩)))
    | refused r => exact .inr (.inr (.inr (.inr ⟨r, rfl, rfl, rfl⟩)))

/-- Everything a PLC state can do when it answers a next state (42_bridge_loop.md R200, R204 to R209). -/
theorem runPlcState_next {op : GatewayOp} {onOk : BitVec 16 → State → Host.Outcome State Fault Refusal} {s t : State}
    (h : runPlcState op onOk s = .next t) :
    (s.pend = true ∧ s.rspIn = none ∧ t = s) ∨
    (∃ rq, s.pend = false ∧ operandsOf op s = .next rq ∧ t = setPend (emit (.req rq) s)) ∨
    (∃ r d, s.pend = true ∧ s.rspIn = some r ∧ responseOf r = .ok d ∧ onOk d (clearPend s) = .next t) ∨
    (∃ r c, s.pend = true ∧ s.rspIn = some r ∧ responseOf r = .err c ∧ t = takeError (.gateway op c) (clearPend s)) := by
  unfold runPlcState at h
  rcases plcCall_cases op s with ⟨hp, hr, hc⟩ | ⟨r, hp, hr, hc⟩ | ⟨rq, hp, ho, hc⟩ | ⟨f, hp, ho, hc⟩ | ⟨r, hp, ho, hc⟩
  · rw [hc] at h
    exact .inl ⟨hp, hr, by injection h with h; exact h.symm⟩
  · rw [hc] at h
    cases hd : responseOf r with
    | ok d => rw [hd] at h; exact .inr (.inr (.inl ⟨r, d, hp, hr, hd, h⟩))
    | err c =>
      rw [hd] at h
      exact .inr (.inr (.inr ⟨r, c, hp, hr, hd, by injection h with h; exact h.symm⟩))
  · rw [hc] at h
    exact .inr (.inl ⟨rq, hp, ho, by injection h with h; exact h.symm⟩)
  · rw [hc] at h; cases h
  · rw [hc] at h; cases h

/-- Everything a PLC operation run on its own can do when it answers a next state (41_gateway.md R170). -/
theorem runOperation_next {op : GatewayOp} {value : Config → BitVec 16 → OpResult} {s t : State}
    (h : runOperation op value s = .next t) :
    (s.pend = true ∧ s.rspIn = none ∧ t = s) ∨
    (∃ rq, s.pend = false ∧ operandsOf op s = .next rq ∧ t = setPend (emit (.req rq) s)) ∨
    (∃ r d, s.pend = true ∧ s.rspIn = some r ∧ responseOf r = .ok d ∧
      t = { clearPend s with ret := some (value s.cfg d) }) ∨
    (∃ r c, s.pend = true ∧ s.rspIn = some r ∧ responseOf r = .err c ∧
      t = { clearPend s with ret := some (.gatewayError op c) }) := by
  unfold runOperation at h
  rcases plcCall_cases op s with ⟨hp, hr, hc⟩ | ⟨r, hp, hr, hc⟩ | ⟨rq, hp, ho, hc⟩ | ⟨f, hp, ho, hc⟩ | ⟨r, hp, ho, hc⟩
  · rw [hc] at h
    exact .inl ⟨hp, hr, by injection h with h; exact h.symm⟩
  · rw [hc] at h
    cases hd : responseOf r with
    | ok d =>
      rw [hd] at h
      exact .inr (.inr (.inl ⟨r, d, hp, hr, hd, by injection h with h; exact h.symm⟩))
    | err c =>
      rw [hd] at h
      exact .inr (.inr (.inr ⟨r, c, hp, hr, hd, by injection h with h; exact h.symm⟩))
  · rw [hc] at h
    exact .inr (.inl ⟨rq, hp, ho, by injection h with h; exact h.symm⟩)
  · rw [hc] at h; cases h
  · rw [hc] at h; cases h

/-! ### Fetching and turns -/

/-- The instruction of a state's code. -/
def instrOfSt : St → Instr
  | .init => .stInit
  | .await => .stAwait
  | .decode => .stDecode
  | .wrAnalog => .stWrAnalog
  | .rdOverride => .stRdOverride
  | .wrInflags => .stWrInflags
  | .wrOutflags => .stWrOutflags
  | .wrOutflags2 => .stWrOutflags2
  | .rdActuators => .stRdActuators
  | .sendReply => .stSendReply
  | .persist => .stPersist
  | .backoff => .stBackoff
  | .teardown => .stTeardown
  | .halted => .stHalted
  | .failed => .stFailed
  | .reserved => .stReserved

/-- The code in `st` decodes to that state's instruction (30_encoding.md R100). -/
@[simp] theorem decodeState_stCode (st : St) : decodeState (stCode st) = instrOfSt st := by
  cases st <;> rfl

/-- CORE's turn runs the instruction of `st`. -/
theorem runCore_eq_exec (s : State) : runCore s = exec (instrOfSt s.st) s := by
  simp [runCore, fetchWord, decode]

/-- Everything the receive agent can do (20_memory.md R63). -/
theorem rxByte_cases (b : Byte) (s : State) :
    (rxOpen s = false ∧ rxByte b s = s) ∨
    (rxOpen s = true ∧ s.rxq.length < s.cfg.rxDepth ∧ rxByte b s = emit (.rx b) { s with rxq := s.rxq ++ [b] }) ∨
    (rxOpen s = true ∧ s.cfg.rxDepth ≤ s.rxq.length ∧ rxByte b s = emit (.rxdrop b) (setRxOverflow s)) := by
  unfold rxByte
  cases hopen : rxOpen s with
  | false => exact .inl ⟨rfl, rfl⟩
  | true =>
    by_cases hfull : s.rxq.length < s.cfg.rxDepth
    · exact .inr (.inl ⟨rfl, hfull, by simp [hfull]⟩)
    · exact .inr (.inr ⟨rfl, by omega, by simp [hfull]⟩)

/-- Everything the PLC agent can do when it answers a next state (42_bridge_loop.md R219). -/
theorem plcRespond_next {r : RspWord} {s t : State} (h : plcRespond r s = .next t) :
    (plcEnabled s = true ∧ exec (instrOfSt s.st) (emit (.rsp r) { s with rspIn := some r }) = .next t) ∨
    (plcEnabled s = false ∧ t = s) := by
  unfold plcRespond at h
  split at h
  · exact .inl ⟨‹_›, by rw [runCore_eq_exec] at h; exact h⟩
  · rename_i hen; injection h with h; exact .inr ⟨by simpa using hen, h.symm⟩

/-- Everything the transmit consumer can do when it answers a next state (42_bridge_loop.md R220). -/
theorem txAccept_next {s t : State} (h : txAccept s = .next t) :
    (∃ b, txEnabled s = true ∧ (txReg s s.txi).2 = some b ∧ t = emit (.tx b) { s with txi := s.txi + 1 }) ∨
    (txEnabled s = false ∧ t = s) := by
  unfold txAccept at h
  split at h
  · split at h <;> cases h
    rename_i b hb
    obtain ⟨x, hx, hxb⟩ := readReg_next hb
    cases hxb
    exact .inl ⟨b, ‹_›, hx, rfl⟩
  · rename_i hen; injection h with h; exact .inr ⟨by simpa using hen, h.symm⟩

/-- Everything a step can be: the configuration is legal, and it is CORE's turn or a stimulus's. -/
theorem step_next {s t : State} (h : step s = .next t) :
    cfgLegal s.cfg = true ∧
    ((s.sched = [] ∧ exec (instrOfSt s.st) s = .next t) ∨
     (s.st = .reserved ∧ exec (instrOfSt s.st) s = .next t) ∨
     (∃ e rest, s.sched = e :: rest ∧ (s.st = .reserved → e = .reset) ∧ stimulate e { s with sched := rest } = .next t)) := by
  unfold step at h
  cases hlegal : cfgLegal s.cfg with
  | false => rw [hlegal] at h; cases h
  | true =>
    rw [hlegal] at h
    simp only [turn, if_true] at h
    refine ⟨rfl, ?_⟩
    split at h
    · exact .inl ⟨‹_›, by rw [← runCore_eq_exec]; exact h⟩
    · split at h
      · rename_i hres
        exact .inr (.inl ⟨hres.1, by rw [← runCore_eq_exec]; exact h⟩)
      · rename_i e rest hs hres
        refine .inr (.inr ⟨e, rest, hs, fun hst => ?_, h⟩)
        by_contra hne
        exact hres ⟨hst, hne⟩

/-! ### The relation of two states that differ in the input flags -/

open Sys2Proof.Safety in
/-- An event is itself. -/
theorem equalButInF_refl (cfg : Config) (e : Event) : EqualButInF cfg e e := .inl rfl

open Sys2Proof.Safety in
/-- Two related histories stay related when one event is added to each, related too. -/
theorem equalButInF_append {cfg : Config} {es es' : List Event} {e e' : Event}
    (h : List.Forall₂ (EqualButInF cfg) es es') (he : EqualButInF cfg e e') :
    List.Forall₂ (EqualButInF cfg) (es ++ [e]) (es' ++ [e']) := List.rel_append h (.cons he .nil)

end Sys2Proof.Machine
end

