-- ==== Sys2Proof/Laws/PerInstr.lean ====
section
/-! SUPPORT. Statements about every instruction as syntax, one lemma per constructor. -/

namespace Sys2Proof.Laws

/-- The width in bits of an instruction's format in spec/opcode_table.json: F10, A1, O3, PLCREQ, STATE4, LOG32
(30_encoding.md R91, R95, R96, R98, R100, R101). -/
def formatBits : Instr → Nat
  | .frame _ _ _ _ _ _ _ _ _ _ => 80
  | .ack => 8
  | .ovr _ _ => 24
  | .writeAnalog => 29
  | .writeInputFlags => 29
  | .writeOutputFlags => 29
  | .writeOutputFlags2 => 29
  | .readOverrideFlag => 29
  | .readActuatorCoils => 29
  | .stInit => 4
  | .stAwait => 4
  | .stDecode => 4
  | .stWrAnalog => 4
  | .stRdOverride => 4
  | .stWrInflags => 4
  | .stWrOutflags => 4
  | .stWrOutflags2 => 4
  | .stRdActuators => 4
  | .stSendReply => 4
  | .stPersist => 4
  | .stBackoff => 4
  | .stTeardown => 4
  | .stHalted => 4
  | .stFailed => 4
  | .stReserved => 4
  | .logBadLength _ => 32
  | .logBadStartByte _ => 32
  | .logChecksumMismatch _ _ => 32
  | .logGatewayError _ _ => 32
  | .logStartupFailure _ _ => 32

/-- The width of a word on its port. -/
def wordBits : PortWord → Nat
  | .rxGroup bs => 8 * bs.length
  | .txReply bs => 8 * bs.length
  | .plcHeader _ => 29
  | .stateCode _ => 4
  | .logWord _ => 32

/-- In every configuration the word of the instruction has its format's width. -/
def PortFormat.Statement (i : Instr) : Prop := ∀ cfg : Config, wordBits (encode cfg i) = formatBits i

theorem PortFormat.frame (a b c d e f g : Byte) (r : BitVec 2) (h : BitVec 6) (k : Byte) : PortFormat.Statement (.frame a b c d e f g r h k) := fun _ => rfl
theorem PortFormat.ack : PortFormat.Statement .ack := fun _ => rfl
theorem PortFormat.ovr (f g : Byte) : PortFormat.Statement (.ovr f g) := fun _ => rfl
theorem PortFormat.writeAnalog : PortFormat.Statement .writeAnalog := fun _ => rfl
theorem PortFormat.writeInputFlags : PortFormat.Statement .writeInputFlags := fun _ => rfl
theorem PortFormat.writeOutputFlags : PortFormat.Statement .writeOutputFlags := fun _ => rfl
theorem PortFormat.writeOutputFlags2 : PortFormat.Statement .writeOutputFlags2 := fun _ => rfl
theorem PortFormat.readOverrideFlag : PortFormat.Statement .readOverrideFlag := fun _ => rfl
theorem PortFormat.readActuatorCoils : PortFormat.Statement .readActuatorCoils := fun _ => rfl
theorem PortFormat.stInit : PortFormat.Statement .stInit := fun _ => rfl
theorem PortFormat.stAwait : PortFormat.Statement .stAwait := fun _ => rfl
theorem PortFormat.stDecode : PortFormat.Statement .stDecode := fun _ => rfl
theorem PortFormat.stWrAnalog : PortFormat.Statement .stWrAnalog := fun _ => rfl
theorem PortFormat.stRdOverride : PortFormat.Statement .stRdOverride := fun _ => rfl
theorem PortFormat.stWrInflags : PortFormat.Statement .stWrInflags := fun _ => rfl
theorem PortFormat.stWrOutflags : PortFormat.Statement .stWrOutflags := fun _ => rfl
theorem PortFormat.stWrOutflags2 : PortFormat.Statement .stWrOutflags2 := fun _ => rfl
theorem PortFormat.stRdActuators : PortFormat.Statement .stRdActuators := fun _ => rfl
theorem PortFormat.stSendReply : PortFormat.Statement .stSendReply := fun _ => rfl
theorem PortFormat.stPersist : PortFormat.Statement .stPersist := fun _ => rfl
theorem PortFormat.stBackoff : PortFormat.Statement .stBackoff := fun _ => rfl
theorem PortFormat.stTeardown : PortFormat.Statement .stTeardown := fun _ => rfl
theorem PortFormat.stHalted : PortFormat.Statement .stHalted := fun _ => rfl
theorem PortFormat.stFailed : PortFormat.Statement .stFailed := fun _ => rfl
theorem PortFormat.stReserved : PortFormat.Statement .stReserved := fun _ => rfl
theorem PortFormat.logBadLength (n : Byte) : PortFormat.Statement (.logBadLength n) := fun _ => rfl
theorem PortFormat.logBadStartByte (b : Byte) : PortFormat.Statement (.logBadStartByte b) := fun _ => rfl
theorem PortFormat.logChecksumMismatch (c r : Byte) : PortFormat.Statement (.logChecksumMismatch c r) := fun _ => rfl
theorem PortFormat.logGatewayError (op : GatewayOp) (c : Cause) : PortFormat.Statement (.logGatewayError op c) := fun _ => rfl
theorem PortFormat.logStartupFailure (a b : Bool) : PortFormat.Statement (.logStartupFailure a b) := fun _ => rfl

end Sys2Proof.Laws
end

