-- ==== Sys2Proof/Tests/Slice0.lean ====
section
/-! SUPPORT. Tests and witnesses. Expected values come from 95_test_vectors.md (its vectors are named at each test) or are worked
out by hand from the encodings of 30_encoding.md. The witnesses at the end show, for every statement with hypotheses, a state
and operands that meet them. -/

namespace Sys2Proof.Tests

open Sys2Proof.Machine Sys2Proof.Safety

/-! ### The small states the tests start from -/

/-- The default configuration with the test value 100 for the override coil (95_test_vectors.md). -/
def cfg0 : Config := Config.withDefaults 100#16

/-- Right after reset, with the links up and the clock at 1. -/
def base : State := { State.reset with cfg := cfg0, serLinkOk := true, plcLinkOk := true, wallclock := 1#64 }

/-- `base` waiting in `st`. -/
def at_ (st : St) : State := { base with st := st }

/-- The Scenario A frame, D-1. -/
def frameA : List Byte := [0xAA#8, 0x32#8, 0x28#8, 0x0A#8, 0x05#8, 0x02#8, 0x04#8, 0x01#8, 0x00#8, 0xB8#8]

/-- The same frame with its last bit flipped, D-8. -/
def frameBad : List Byte := [0xAA#8, 0x32#8, 0x28#8, 0x0A#8, 0x05#8, 0x02#8, 0x04#8, 0x01#8, 0x00#8, 0xB9#8]

/-- In `st` after a good decode of the Scenario A frame. -/
def cycle (st : St) : State :=
  { base with
    st := st, frm := some frameA, level1 := some 50#8, level2 := some 40#8, tds := some 10#8, flow := some 5#8
    pressure := some 2#8, inF := some 0x04#8, outF := some 0x01#8, outF2 := some 0#6, fv := true }

/-- `cycle st` with a request outstanding and the response `r` shown. -/
def answeredBy (st : St) (r : RspWord) : State := { cycle st with pend := true, rspIn := some r }

/-- A success with this data. -/
def okWord (d : BitVec 16) : RspWord := ⟨true, 0#2, d⟩

/-- A failure with this cause code. -/
def errWord (c : BitVec 2) : RspWord := ⟨false, c, 0#16⟩

/-- The acknowledge of a NORMAL cycle waits to be sent. -/
def ackWaiting : State :=
  { cycle .sendReply with ovr := some false, ovrV := true, txb0 := some 0xFF#8, txn := 1 }

/-- The override reply of an OVERRIDE cycle waits to be sent, X-4. -/
def overrideWaiting : State :=
  { cycle .sendReply with
    ovr := some true, ovrV := true, act := some 0x2081#16, txb0 := some 0xBB#8, txb1 := some 0x81#8, txb2 := some 0x20#8
    txn := 3 }

/-- The next state's value of `f`, when there is one. -/
def look {α : Type} (f : State → α) (o : Host.Outcome State Fault Refusal) : Option α :=
  match o with
  | .next t => some (f t)
  | .fault _ => none
  | .refused _ => none

/-- The fault, when there is one. -/
def faultOf (o : Host.Outcome State Fault Refusal) : Option Fault :=
  match o with
  | .next _ => none
  | .fault f => some f
  | .refused _ => none

/-! ### WellFormed refuses an ill-formed term of each check -/

theorem test_wf_frame_checksum : WellFormed (.frame 50#8 40#8 10#8 5#8 2#8 0x04#8 0x01#8 0#2 0#6 0xB9#8) = false := by decide
theorem test_wf_frame_good : WellFormed (.frame 50#8 40#8 10#8 5#8 2#8 0x04#8 0x01#8 0#2 0#6 0xB8#8) = true := by decide
theorem test_wf_reserved_state : WellFormed .stReserved = false := by decide
theorem test_wf_length_ten : WellFormed (.logBadLength 10#8) = false := by decide
theorem test_wf_start_byte : WellFormed (.logBadStartByte 0xAA#8) = false := by decide
theorem test_wf_equal_sums : WellFormed (.logChecksumMismatch 0xB8#8 0xB8#8) = false := by decide
theorem test_wf_no_link_failed : WellFormed (.logStartupFailure false false) = false := by decide

/-! ### Legal configurations, K-1 to K-6 -/

theorem test_cfg_top_of_range : cfgLegal { cfg0 with analogBase := 65531#16 } = true := by decide
theorem test_cfg_past_range : cfgLegal { cfg0 with analogBase := 65532#16 } = false := by decide
theorem test_cfg_counts : cfgLegal { cfg0 with actCount := 13 } = false ∧ cfgLegal { cfg0 with actCount := 17 } = false := by
  decide
theorem test_cfg_depth : cfgLegal { cfg0 with rxDepth := 9 } = false ∧ cfgLegal { cfg0 with rxDepth := 10 } = true := by decide
theorem test_cfg_override_in_range : cfgLegal { cfg0 with overrideCoil := some 6#16 } = true := by decide
theorem test_cfg_override_missing : cfgLegal { cfg0 with overrideCoil := none } = false := by decide
theorem test_cfg_refused : step { base with cfg := { cfg0 with actCount := 13 } } = .refused .illegalConfiguration := rfl

/-! ### Every constructor's word, written out from the spec's encoding of it -/

theorem test_decode_frame : decode cfg0 false (.rxGroup [0xAA#8, 0xC8#8, 0xC7#8, 0x80#8, 0x00#8, 0xFF#8, 0x80#8, 0xC0#8, 0x3F#8,
    0xA5#8]) = .ok (.frame 200#8 199#8 128#8 0#8 255#8 0x80#8 0xC0#8 0#2 0x3F#6 0xA5#8) := by decide
theorem test_decode_frame_reserved_bits : decode cfg0 false (.rxGroup [0xAA#8, 0#8, 0#8, 0#8, 0#8, 0#8, 0#8, 0#8, 0xC0#8,
    0x6A#8]) = .ok (.frame 0#8 0#8 0#8 0#8 0#8 0#8 0#8 0b11#2 0#6 0x6A#8) := by decide
theorem test_decode_replies : decode cfg0 false (.txReply [0xFF#8]) = .ok .ack ∧
    decode cfg0 false (.txReply [0xBB#8, 0xBB#8, 0x00#8]) = .ok (.ovr 0xBB#8 0x00#8) := by decide
/-- H = fc[28:21] addr[20:5] cnt[4:0], with the default bases and override coil 100 (R98, R99). -/
theorem test_decode_headers :
    decode cfg0 false (.plcHeader (0x10#8 ++ 0#16 ++ 5#5)) = .ok .writeAnalog ∧
    decode cfg0 false (.plcHeader (0x0F#8 ++ 0#16 ++ 8#5)) = .ok .writeInputFlags ∧
    decode cfg0 false (.plcHeader (0x0F#8 ++ 8#16 ++ 8#5)) = .ok .writeOutputFlags ∧
    decode cfg0 false (.plcHeader (0x0F#8 ++ 16#16 ++ 6#5)) = .ok .writeOutputFlags2 ∧
    decode cfg0 false (.plcHeader (0x01#8 ++ 100#16 ++ 1#5)) = .ok .readOverrideFlag ∧
    decode cfg0 false (.plcHeader (0x01#8 ++ 8#16 ++ 14#5)) = .ok .readActuatorCoils := by decide
theorem test_decode_header_count : decode { cfg0 with actCount := 16 } false (.plcHeader (0x01#8 ++ 8#16 ++ 16#5))
    = .ok .readActuatorCoils := by decide
theorem test_decode_header_other : decode cfg0 false (.plcHeader (0x05#8 ++ 0#16 ++ 1#5))
    = .error (.notARequest (0x05#8 ++ 0#16 ++ 1#5)) := by decide
theorem test_decode_states :
    [0x0#4, 0x1#4, 0x2#4, 0x3#4, 0x4#4, 0x5#4, 0x6#4, 0x7#4, 0x8#4, 0x9#4, 0xA#4, 0xB#4, 0xC#4, 0xD#4, 0xE#4, 0xF#4].map decodeState
      = [.stInit, .stAwait, .stDecode, .stWrAnalog, .stRdOverride, .stWrInflags, .stWrOutflags, .stWrOutflags2, .stRdActuators,
        .stSendReply, .stPersist, .stBackoff, .stTeardown, .stHalted, .stFailed, .stReserved] := by decide
/-- D-8, D-10, D-14, E-2, E-7. -/
theorem test_decode_logs :
    decode cfg0 false (.logWord 0x000200F1#32) = .ok (.logBadLength 2#8) ∧
    decode cfg0 false (.logWord 0x00AB00F2#32) = .ok (.logBadStartByte 0xAB#8) ∧
    decode cfg0 false (.logWord 0xB9B800F3#32) = .ok (.logChecksumMismatch 0xB8#8 0xB9#8) ∧
    decode cfg0 false (.logWord 0x00000154#32) = .ok (.logGatewayError .readActuatorCoils .timeout) ∧
    decode cfg0 false (.logWord 0x000300F5#32) = .ok (.logStartupFailure true true) := by decide
theorem test_decode_log_reserved : decode cfg0 false (.logWord 0x000000F6#32) = .error (.reservedLogCode 0x6#4) := by decide
theorem test_decode_log_bad_op : decode cfg0 false (.logWord 0x00000164#32) = .error (.malformedLogWord 0x00000164#32) := by
  decide
theorem test_decode_short_group : decode cfg0 false (.rxGroup [0xAA#8, 0x00#8]) = .error (.badLength 2) := by decide
theorem test_decode_reply_refused : decode cfg0 false (.txReply [0xBB#8]) = .error (.notAReply [0xBB#8]) := by decide

/-! ### The codec on its own, D, P, U and X vectors -/

theorem test_codec_reserved_bits : (match codecDecode [0xAA#8, 0#8, 0#8, 0#8, 0#8, 0#8, 0#8, 0#8, 0xC0#8, 0x6A#8] with
    | .ok f => f.outputFlags2 == ⟨false, false, false, false, false, false⟩
    | .error _ => false) = true := by decide
theorem test_codec_lengths : codecDecode [0xAA#8, 0x00#8] = .error (.badLength 2) ∧
    codecDecode (frameA ++ [0#8]) = .error (.badLength 11) := by decide
theorem test_unpack_names : (unpackInputFlags 0x04#8).modeStandby = true ∧ (unpackInputFlags 0x40#8).modeOverride = true ∧
    (unpackOutputFlags 0x01#8).solenoid1 = true ∧ (unpackOutputFlags 0x80#8).pump2 = true ∧
    (unpackOutputFlags2 0x20#6).stepper = true := by decide
theorem test_pack8 : pack8 [true, false, false, false, false, false, false, true] = 0x81#8 := by decide
theorem test_pad16 : pad16 0xFFFF#16 14 = 0x3FFF#16 ∧ pad16 0xFFFF#16 15 = 0x7FFF#16 ∧ pad16 0xFFFF#16 16 = 0xFFFF#16 ∧
    pad16 0xC001#16 14 = 0x0001#16 := by decide
theorem test_encode_override : encodeOverride (coilsOf 0x3FFF#16) = .ok [0xBB#8, 0xFF#8, 0x3F#8] ∧
    encodeOverride (List.replicate 15 true) = .error (.invalidFlagCount 15) := by decide

/-! ### One step of each instruction -/

/-- D-3: the reserved bits of byte 8 are discarded. -/
theorem test_frame_good : look (fun t => (t.st, t.level1, t.pressure, t.outF2))
    (exec (.frame 0xFF#8 0xFF#8 0xFF#8 0xFF#8 0xFF#8 0xFF#8 0xFF#8 0b11#2 0x3F#6 0xAA#8) (at_ .decode))
      = some (.wrAnalog, some 255#8, some 255#8, some 0x3F#6) := by decide
/-- D-9. -/
theorem test_frame_mismatch : look (fun t => (t.st, t.events, t.frm))
    (exec (.frame 0x32#8 0x28#8 0x0A#8 0x05#8 0x03#8 0x04#8 0x01#8 0#2 0#6 0xB8#8) (at_ .decode))
      = some (.await, [.log 0xB8B900F3#32], none) := by decide
theorem test_ack : look (fun t => (t.st, t.txb0, t.txb1, t.txn, t.txi)) (exec .ack (cycle .wrOutflags2))
    = some (.sendReply, some 0xFF#8, none, 1, 0) := by decide
/-- X-5. -/
theorem test_ovr : look (fun t => (t.st, t.txb0, t.txb1, t.txb2, t.txn)) (exec (.ovr 0xBB#8 0x00#8) (cycle .rdActuators))
    = some (.sendReply, some 0xBB#8, some 0xBB#8, some 0x00#8, 3) := by decide
/-- G-1. -/
theorem test_writeAnalog_issue : look (fun t => (t.pend, t.events)) (exec .writeAnalog (cycle .wrAnalog))
    = some (true, [.req ⟨0x10#8, 0#16, 5#5, 0x00020005000A00280032#80⟩]) := by decide
theorem test_writeAnalog_done : look (fun t => (t.pend, t.ret)) (exec .writeAnalog (answeredBy .wrAnalog (okWord 0xFFFF#16)))
    = some (false, some .done) := by decide
/-- G-4. -/
theorem test_writeInputFlags : look (fun t => t.events) (exec .writeInputFlags { cycle .wrInflags with inF := some 0x81#8 })
    = some [.req ⟨0x0F#8, 0#16, 8#5, 0x81#80⟩] := by decide
/-- G-5. -/
theorem test_writeOutputFlags : look (fun t => t.events) (exec .writeOutputFlags { cycle .wrOutflags with outF := some 0x3C#8 })
    = some [.req ⟨0x0F#8, 8#16, 8#5, 0x3C#80⟩] := by decide
/-- G-6. -/
theorem test_writeOutputFlags2 : look (fun t => t.events)
    (exec .writeOutputFlags2 { cycle .wrOutflags2 with outF2 := some 0x25#6 })
      = some [.req ⟨0x0F#8, 16#16, 6#5, 0x25#80⟩] := by decide
/-- G-7: only bit 0 counts. -/
theorem test_readOverrideFlag : look (fun t => t.ret) (exec .readOverrideFlag (answeredBy .rdOverride (okWord 0xFFFE#16)))
    = some (some (.flag false)) := by decide
/-- G-8. -/
theorem test_readOverrideFlag_set : look (fun t => t.ret) (exec .readOverrideFlag (answeredBy .rdOverride (okWord 0x0003#16)))
    = some (some (.flag true)) := by decide
/-- G-9. -/
theorem test_readActuatorCoils : look (fun t => t.events) (exec .readActuatorCoils (cycle .rdActuators))
    = some [.req ⟨0x01#8, 8#16, 14#5, 0#80⟩] := by decide
theorem test_readActuatorCoils_value : look (fun t => t.ret) (exec .readActuatorCoils (answeredBy .rdActuators (okWord 0xFFFF#16)))
    = some (some (.coils 0x3FFF#16)) := by decide
/-- S-1. -/
theorem test_stInit : look (fun t => (t.st, t.events)) (exec .stInit base) = some (.await, []) := by decide
/-- S-2. -/
theorem test_stInit_failed : look (fun t => (t.st, t.events)) (exec .stInit { base with serLinkOk := false })
    = some (.failed, [.log 0x000100F5#32]) := by decide
/-- S-3, S-4. -/
theorem test_stAwait : look (fun t => t.st) (exec .stAwait { at_ .await with rxq := frameA.take 9 }) = some .await ∧
    look (fun t => t.st) (exec .stAwait { at_ .await with rxq := frameA }) = some .decode := by decide
/-- S-5: shutdown wins. -/
theorem test_stAwait_shutdown : look (fun t => (t.st, t.rxq.length))
    (exec .stAwait { at_ .await with shutdown := true, rxq := List.replicate 25 0#8 }) = some (.teardown, 25) := by decide
/-- S-6, with one more byte behind the frame. -/
theorem test_stDecode : look (fun t => (t.st, t.rxq, t.level1, t.inF))
    (exec .stDecode { at_ .decode with rxq := frameA ++ [0x11#8] }) = some (.wrAnalog, [0x11#8], some 50#8, some 0x04#8) := by
  decide
/-- S-7. -/
theorem test_stDecode_mismatch : look (fun t => (t.st, t.rxq, t.events, t.frm)) (exec .stDecode { at_ .decode with rxq := frameBad })
    = some (.await, [], [.log 0xB9B800F3#32], none) := by decide
/-- S-8. -/
theorem test_stWrAnalog : look (fun t => (t.st, t.pend)) (exec .stWrAnalog (answeredBy .wrAnalog (okWord 0#16)))
    = some (.rdOverride, false) := by decide
/-- S-9. -/
theorem test_stWrAnalog_failed : look (fun t => (t.st, t.events)) (exec .stWrAnalog (answeredBy .wrAnalog (errWord 0#2)))
    = some (.backoff, [.log 0x00000004#32]) := by decide
/-- S-10, S-11. -/
theorem test_stRdOverride :
    look (fun t => (t.st, t.ovr)) (exec .stRdOverride (answeredBy .rdOverride (okWord 0#16))) = some (.wrInflags, some false) ∧
    look (fun t => (t.st, t.ovr)) (exec .stRdOverride (answeredBy .rdOverride (okWord 1#16))) = some (.rdActuators, some true) := by
  decide
/-- S-12. -/
theorem test_stRdOverride_failed : look (fun t => (t.st, t.events, t.ovr)) (exec .stRdOverride (answeredBy .rdOverride (errWord 2#2)))
    = some (.backoff, [.log 0x00000244#32], none) := by decide
/-- S-13. -/
theorem test_stWrInflags_failed : look (fun t => (t.st, t.events)) (exec .stWrInflags (answeredBy .wrInflags (errWord 3#2)))
    = some (.backoff, [.log 0x00000314#32]) := by decide
theorem test_stWrOutflags : look (fun t => t.st) (exec .stWrOutflags (answeredBy .wrOutflags (okWord 0#16))) = some .wrOutflags2 := by
  decide
/-- Program P4. -/
theorem test_stWrOutflags_failed : look (fun t => (t.st, t.events)) (exec .stWrOutflags (answeredBy .wrOutflags (errWord 1#2)))
    = some (.backoff, [.log 0x00000124#32]) := by decide
/-- S-14. -/
theorem test_stWrOutflags2 : look (fun t => (t.st, t.txb0, t.txn)) (exec .stWrOutflags2 (answeredBy .wrOutflags2 (okWord 0#16)))
    = some (.sendReply, some 0xFF#8, 1) := by decide
/-- S-15. -/
theorem test_stRdActuators : look (fun t => (t.st, t.act, t.txb0, t.txb1, t.txb2))
    (exec .stRdActuators (answeredBy .rdActuators (okWord 0x0081#16)))
      = some (.sendReply, some 0x0081#16, some 0xBB#8, some 0x81#8, some 0x00#8) := by decide
/-- S-16. -/
theorem test_stRdActuators_failed : look (fun t => (t.st, t.events)) (exec .stRdActuators (answeredBy .rdActuators (errWord 1#2)))
    = some (.backoff, [.log 0x00000154#32]) := by decide
/-- S-17. -/
theorem test_stSendReply : look (fun t => t.st) (exec .stSendReply { ackWaiting with txi := 1 }) = some .persist := by decide
/-- The record of program P1. -/
theorem test_stPersist : look (fun t => (t.st, t.events, t.level1)) (exec .stPersist { ackWaiting with st := .persist, txi := 1 })
    = some (.await, [.pst 0x000000000000000100010000010402050A2832#152], none) := by decide
/-- The record of program P2. -/
theorem test_stPersist_override : look (fun t => t.events)
    (exec .stPersist { overrideWaiting with st := .persist, txi := 3, wallclock := 0x5F5E1000#64 })
      = some [.pst 0x000000005F5E100020810100010402050A2832#152] := by decide
/-- S-19. -/
theorem test_stBackoff : look (fun t => (t.st, t.rxq, t.level1)) (exec .stBackoff { cycle .backoff with rxq := [0x11#8] })
    = some (.await, [0x11#8], none) := by decide
/-- S-20. -/
theorem test_stTeardown : look (fun t => (t.st, t.events)) (exec .stTeardown (at_ .teardown))
    = some (.halted, [.close .serial, .close .plc]) := by decide
/-- S-21. -/
theorem test_stHalted_ignores : look (fun t => (t.st, t.rxq, t.events)) (step { at_ .halted with sched := [.rx 0x00#8] })
    = some (.halted, [], []) := by decide
theorem test_stFailed_holds : look (fun t => t.st) (exec .stFailed (at_ .failed)) = some .failed := by decide
theorem test_stReserved : faultOf (step (at_ .reserved)) = some .reservedState := by decide
/-- D-14. -/
theorem test_logBadLength : look (fun t => (t.st, t.events)) (exec (.logBadLength 2#8) (at_ .decode))
    = some (.await, [.log 0x000200F1#32]) := by decide
/-- D-11. -/
theorem test_logBadStartByte : look (fun t => (t.st, t.events)) (exec (.logBadStartByte 0x55#8) (at_ .decode))
    = some (.await, [.log 0x005500F2#32]) := by decide
theorem test_logChecksumMismatch : look (fun t => t.events) (exec (.logChecksumMismatch 0xB8#8 0xB9#8) (at_ .decode))
    = some [.log 0xB9B800F3#32] := by decide
/-- E-4. -/
theorem test_logGatewayError : look (fun t => (t.st, t.events)) (exec (.logGatewayError .readOverrideFlag .other) (cycle .rdOverride))
    = some (.backoff, [.log 0x00000344#32]) := by decide
/-- E-6. -/
theorem test_logStartupFailure : look (fun t => (t.st, t.events)) (exec (.logStartupFailure false true) base)
    = some (.failed, [.log 0x000200F5#32]) := by decide

/-! ### The other agents -/

/-- F-1: the eleventh byte is dropped. -/
theorem test_rx_overflow : look (fun t => (t.rxq.length, t.rxOverflow, t.events))
    (step
      { cycle .wrAnalog with
        cfg := { cfg0 with rxDepth := 10 }, pend := true, rxq := List.replicate 10 0x11#8, sched := [.rx 0x11#8] }) = some (10, true, [.rxdrop 0x11#8]) := by decide
theorem test_rsp_in_one_step : look (fun t => (t.st, t.pend, t.events))
    (step { cycle .wrAnalog with pend := true, sched := [.rsp (errWord 1#2)] })
      = some (.backoff, false, [.rsp (errWord 1#2), .log 0x00000104#32]) := by decide
theorem test_rsp_ignored : look (fun t => (t.st, t.events)) (step { cycle .wrAnalog with sched := [.rsp (okWord 0#16)] })
    = some (.wrAnalog, []) := by decide
theorem test_accept : look (fun t => (t.txi, t.events)) (step { overrideWaiting with txi := 2, sched := [.accept] })
    = some (3, [.tx 0x20#8]) := by decide
/-- R35: the outputs at reset, in SEND_REPLY (code 0x9), and after an overflow. -/
theorem test_outputs : fsmState base = 0x0#4 ∧ rxOverflowO base = false ∧ fsmState ackWaiting = 0x9#4 ∧
    rxOverflowO { base with rxOverflow := true } = true := by decide
/-- S-22. -/
theorem test_shutdown : look (fun t => (t.st, t.shutdown, t.pend)) (step { cycle .wrAnalog with pend := true, sched := [.shutdown] })
    = some (.wrAnalog, true, true) := by decide
theorem test_reset : look (fun t => (t.st, t.pend, t.level1, t.fv)) (step { cycle .wrAnalog with pend := true, sched := [.reset] })
    = some (.init, false, none, false) := by decide

/-! ### Table words: read, placed, and run by the next step -/

/-- The frame is numbered with its first byte topmost, as spec/opcode_table.json writes it. -/
theorem test_table_frame : decodeTableWord 80 0xAA32280A0502040100B8
    = some (.frame 50#8 40#8 10#8 5#8 2#8 0x04#8 0x01#8 0#2 0#6 0xB8#8) := by decide
theorem test_table_replies : decodeTableWord 8 0xFF = some .ack ∧ decodeTableWord 24 0xBB8120 = some (.ovr 0x81#8 0x20#8) := by
  decide
theorem test_table_state : decodeTableWord 8 0x9 = some .stSendReply := by decide
theorem test_table_log : decodeTableWord 32 0x3 = some (.logChecksumMismatch 0#8 0#8) := by decide
theorem test_place_frame : look (fun t => (t.st, t.level1)) (step (base.withFetchWord 80 0xAA32280A0502040100B8))
    = some (.wrAnalog, some 50#8) := by decide
theorem test_place_ovr : look (fun t => (t.st, t.txb1, t.txb2)) (step (base.withFetchWord 24 0xBBFFFF))
    = some (.sendReply, some 0xFF#8, some 0xFF#8) := by decide
theorem test_place_state : look (fun t => (t.st, t.events)) (step (base.withFetchWord 8 0xC))
    = some (.halted, [.close .serial, .close .plc]) := by decide

/-! ### Witnesses: for every statement with hypotheses, a state and operands that meet them, clause by clause -/

/-- AWAIT with the Scenario A frame and one more byte buffered. -/
def frameReady : State := { at_ .await with rxq := frameA ++ [0x11#8] }

/-- Two equal bases: the two 8-coil writes share a header (30_encoding.md R99). -/
def sharedBase : Config := { cfg0 with outflagBase := 0#16 }

theorem inv_frameReady : Inv frameReady :=
  ⟨by decide, by decide, rfl, by decide, by simp [frameReady, at_, base, State.reset, PhaseOk, CycleCleared]⟩

/-- The SensorFrame registers of `cycle` are the decode of the Scenario A frame. -/
theorem frameHeld_cycle (st : St) : FrameHeld (cycle st) :=
  ⟨frameA, ⟨50#8, 40#8, 10#8, 5#8, 2#8, unpackInputFlags 0x04#8, unpackOutputFlags 0x01#8, unpackOutputFlags2 0#6⟩, rfl, by decide,
    rfl, rfl, rfl, rfl, rfl, rfl, rfl, rfl, rfl⟩

theorem inv_wrAnalog : Inv (cycle .wrAnalog) :=
  ⟨by decide, by decide, rfl, by decide, frameHeld_cycle _, ⟨rfl, rfl⟩, rfl, ⟨rfl, rfl, rfl, rfl, rfl⟩⟩

/-- NORMAL has been answered. -/
def normalWrite : State := { cycle .wrInflags with ovr := some false, ovrV := true }

theorem inv_normalWrite : Inv normalWrite :=
  ⟨by decide, by decide, rfl, by decide, frameHeld_cycle .wrInflags, ⟨rfl, rfl⟩, rfl, ⟨rfl, rfl, rfl, rfl, rfl⟩⟩

/-- OVERRIDE has been answered. -/
def overrideRead : State := { cycle .rdActuators with ovr := some true, ovrV := true }

theorem inv_overrideRead : Inv overrideRead :=
  ⟨by decide, by decide, rfl, by decide, frameHeld_cycle .rdActuators, ⟨rfl, rfl⟩, rfl, ⟨rfl, rfl, rfl, rfl, rfl⟩⟩

theorem inv_ackWaiting : Inv { ackWaiting with sched := [.accept] } :=
  ⟨by decide, by decide, rfl, by decide, frameHeld_cycle .sendReply, .inl ⟨⟨rfl, rfl⟩, rfl, rfl, rfl⟩, by decide⟩

/-- Bits 14 and 15 of the image 0x2081 are 0. -/
theorem image_padded (k : Nat) (h : 14 ≤ k) : (0x2081#16).getLsbD k = false := by
  rcases Nat.lt_or_ge k 16 with hk | hk
  · have : k = 14 ∨ k = 15 := by omega
    rcases this with rfl | rfl <;> rfl
  · exact BitVec.getLsbD_of_ge _ _ hk

theorem inv_overrideWaiting : Inv { overrideWaiting with sched := [.accept] } :=
  ⟨by decide, by decide, rfl, by decide, frameHeld_cycle .sendReply,
    .inr ⟨⟨rfl, rfl⟩, 0x2081#16, rfl, image_padded, rfl, rfl, rfl, rfl⟩, by decide⟩

theorem witness_DecodeInvertsEncode : cfgLegal cfg0 = true ∧ cfg0.inflagBase ≠ cfg0.outflagBase := by decide
theorem witness_DecodeInvertsEncode_shared : cfgLegal sharedBase = true ∧ sharedBase.inflagBase = sharedBase.outflagBase ∧
    decode sharedBase false (encode sharedBase .writeInputFlags) = .ok .writeInputFlags ∧
    decode sharedBase true (encode sharedBase .writeOutputFlags) = .ok .writeOutputFlags := by decide
theorem witness_DecodedWordIsTheEncodedOne : decode cfg0 false (.logWord 0x000100F5#32) = .ok (.logStartupFailure true false) := by
  decide
theorem witness_WrongStartByteIsIllegal : 0xAB#8 ≠ 0xAA#8 ∧ 0xA9#8 ≠ 0xAA#8 ∧ (List.replicate 9 0x00#8).length = 9 := by decide
theorem witness_StepRunsTheFetchedInstruction : cfgLegal base.cfg = true ∧
    decode base.cfg false (.stateCode (stCode base.st)) = .ok .stInit ∧ base.sched = [] ∧
    { base with sched := [.core] }.sched = .core :: [] := by decide
theorem witness_ResponseRunsTheCompletionPart : cfgLegal cfg0 = true ∧
    decode cfg0 false (.stateCode (stCode (cycle .wrAnalog).st)) = .ok .stWrAnalog ∧
    { cycle .wrAnalog with pend := true }.pend = true ∧ (plcOpOf (cycle .wrAnalog).st).isSome = true ∧
    (cycle .wrAnalog).pend = false ∧ (cycle .wrAnalog).st ≠ .reserved := by decide
theorem witness_DecodePerformsItsFrame : frameA.length = 10 ∧
    decodeGroup (frameA.take 10) = .ok (.frame 50#8 40#8 10#8 5#8 2#8 0x04#8 0x01#8 0#2 0#6 0xB8#8) ∧
    decodeGroup ((List.replicate 10 0x55#8).take 10) = .error (.badStartByte 0x55#8) := by decide
/-- For the clauses of the PLC states while no response is at hand: to issue, and to hold. -/
theorem witness_no_response_at_hand : (cycle .rdOverride).pend = false ∧ { cycle .rdOverride with pend := true }.rspIn = none := by
  decide
/-- For OperationsReturnTheResponse, WrAnalogThenQueriesOverride, FlagWriteStatesFollowInOrder and
RdActuatorsPreparesTheOverrideReply: a success and a failure shown. -/
theorem witness_responses : (answeredBy .wrAnalog (okWord 0#16)).pend = true ∧
    (answeredBy .wrAnalog (okWord 0#16)).rspIn = some (okWord 0#16) ∧ (okWord 0#16).ok = true ∧
    (answeredBy .wrAnalog (errWord 1#2)).rspIn = some (errWord 1#2) ∧ (errWord 1#2).ok = false := by decide
theorem witness_PlcFailureIsTheGatewayLog : (answeredBy .rdOverride (errWord 3#2)).pend = true ∧
    (answeredBy .rdOverride (errWord 3#2)).rspIn = some (errWord 3#2) ∧ (errWord 3#2).ok = false := by decide
/-- The padded image of 0xE081 with 14 coils read is 0x2081. -/
theorem witness_RepliesArePerformedByTheirStates : (answeredBy .rdActuators (okWord 0xE081#16)).pend = true ∧
    (answeredBy .rdActuators (okWord 0xE081#16)).rspIn = some (okWord 0xE081#16) ∧ (okWord 0xE081#16).ok = true ∧
    IsPadded (okWord 0xE081#16).rdata (answeredBy .rdActuators (okWord 0xE081#16)).cfg.actCount 0x2081#16 := by
  refine ⟨by decide, by decide, by decide, fun k => ?_⟩
  show (0x2081#16).getLsbD k = (decide (k < 14) && (0xE081#16).getLsbD k)
  rcases Nat.lt_or_ge k 16 with hk | hk
  · revert k; decide
  · rw [BitVec.getLsbD_of_ge _ _ hk, BitVec.getLsbD_of_ge _ _ hk, Bool.and_false]
theorem witness_FrameDecodesOrIsDropped :
    0xAA#8 ^^^ 0x32#8 ^^^ 0x28#8 ^^^ 0x0A#8 ^^^ 0x05#8 ^^^ 0x02#8 ^^^ 0x04#8 ^^^ 0x01#8 ^^^ (0#2 ++ 0#6 : Byte) = 0xB8#8 ∧
    0xB8#8 ≠ 0xB9#8 := by decide
/-- For WriteAnalogIssuesItsRequest, FlagWritesIssueTheirRequests, CoilReadsIssueTheirRequests and the issuing clauses of the PLC
states. -/
theorem witness_operations : (cycle .wrAnalog).pend = false ∧ (cycle .wrAnalog).level1 = some 50#8 ∧
    (cycle .wrAnalog).level2 = some 40#8 ∧ (cycle .wrAnalog).tds = some 10#8 ∧ (cycle .wrAnalog).flow = some 5#8 ∧
    (cycle .wrAnalog).pressure = some 2#8 ∧ (cycle .wrAnalog).inF = some 0x04#8 ∧ (cycle .wrAnalog).outF = some 0x01#8 ∧
    (cycle .wrAnalog).outF2 = some 0#6 ∧ (cycle .wrAnalog).cfg.overrideCoil = some 100#16 := by decide
theorem witness_CallsHoldForTheirResponse : { cycle .wrAnalog with pend := true }.pend = true ∧
    { cycle .wrAnalog with pend := true }.rspIn = none := by decide
theorem witness_InitChecksBothLinks : base.serLinkOk = true ∧ base.plcLinkOk = true ∧
    ({ base with plcLinkOk := false }.serLinkOk && { base with plcLinkOk := false }.plcLinkOk) = false := by decide
theorem witness_AwaitWaitsForTenBytesOrShutdown : { base with shutdown := true }.shutdown = true ∧ base.shutdown = false ∧
    10 ≤ frameA.length ∧ (frameA.take 9).length < 10 := by decide
theorem witness_DecodeConsumesTenBytes : frameReady.rxq = frameA ++ [0x11#8] ∧
    0xAA#8 ^^^ 0x32#8 ^^^ 0x28#8 ^^^ 0x0A#8 ^^^ 0x05#8 ^^^ 0x02#8 ^^^ 0x04#8 ^^^ 0x01#8 ^^^ 0x00#8 = 0xB8#8 ∧
    0xB9#8 ≠ 0xB8#8 ∧ 0xAB#8 ≠ 0xAA#8 := by decide
theorem witness_RdOverrideSelectsTheCycle : (okWord 0xFFFE#16).ok = true ∧ (okWord 0xFFFE#16).rdata.getLsbD 0 = false ∧
    (okWord 0x0003#16).ok = true ∧ (okWord 0x0003#16).rdata.getLsbD 0 = true := by decide
theorem witness_SendReplyWaitsForEveryByte : { ackWaiting with txi := 1 }.txi = { ackWaiting with txi := 1 }.txn ∧
    { overrideWaiting with txi := 2 }.txi < overrideWaiting.txn ∧
    [overrideWaiting.txb0, overrideWaiting.txb1, overrideWaiting.txb2][2]? = some (some 0x20#8) := by decide
theorem witness_PersistEmitsTheNineteenBytes : ackWaiting.ovr = some false ∧ overrideWaiting.ovr = some true ∧
    overrideWaiting.act = some 0x2081#16 ∧ overrideWaiting.level1 = some 50#8 ∧ overrideWaiting.outF2 = some 0#6 := by decide
theorem witness_HaltedAndFailedAreTerminal :
    RunEnded { at_ .halted with sched := [.shutdown] } ∧ RunEnded (at_ .failed) ∧
    (∃ t, step { at_ .halted with sched := [.shutdown] } = .next t ∧ t.st = .halted) ∧
    (∃ t, step (at_ .failed) = .next t ∧ t.st = .failed) :=
  ⟨.inl rfl, .inr rfl, ⟨_, rfl, rfl⟩, ⟨_, rfl, rfl⟩⟩
theorem witness_HaltedAndFailedAreTerminal_entry :
    ∃ t, step { base with serLinkOk := false } = .next t ∧ t.st = .failed := ⟨_, rfl, rfl⟩
theorem witness_ReservedStateFaults : cfgLegal (at_ .reserved).cfg = true ∧ (at_ .reserved).st = .reserved ∧
    (at_ .reserved).sched = [] := by decide
theorem witness_ReceiveAgentBuffersOrDrops :
    let full : State := { at_ .await with rxq := List.replicate 32 0#8, sched := [.rx 0x11#8] }
    let room : State := { at_ .await with rxq := List.replicate 31 0#8, sched := [.rx 0x11#8] }
    let ended : State := { at_ .halted with sched := [.rx 0x11#8] }
    cfgLegal full.cfg = true ∧ full.cfg.rxDepth ≤ full.rxq.length ∧ room.rxq.length < room.cfg.rxDepth ∧ ended.st = .halted ∧
      full.st ≠ .halted ∧ full.st ≠ .failed := by decide
theorem witness_ShutdownPulseOnlySetsItsFlag : cfgLegal cfg0 = true ∧
    { cycle .wrAnalog with sched := [.shutdown] }.sched = .shutdown :: [] ∧ (cycle .wrAnalog).st ≠ .reserved := by decide
theorem witness_TransmitAcceptTakesTheOfferedByte :
    let s : State := { overrideWaiting with txi := 2, sched := [.accept] }
    cfgLegal s.cfg = true ∧ s.st = .sendReply ∧ s.txi < s.txn ∧ [s.txb0, s.txb1, s.txb2][s.txi]? = some (some 0x20#8) := by decide
/-- The byte to offer holds no value; and nothing is offered, in SEND_REPLY with every byte sent and in AWAIT. -/
theorem witness_TransmitAcceptTakesTheOfferedByte_none :
    let empty : State := { cycle .sendReply with txn := 1, sched := [.accept] }
    let sent : State := { ackWaiting with txi := 1, sched := [.accept] }
    let idle : State := { at_ .await with sched := [.accept] }
    (empty.txi < empty.txn ∧ [empty.txb0, empty.txb1, empty.txb2][empty.txi]? = some none) ∧
      (sent.st = .sendReply ∧ ¬sent.txi < sent.txn) ∧ (idle.st ≠ .reserved ∧ idle.st ≠ .sendReply) := by decide
theorem witness_ResetTakesEveryRegister : cfgLegal cfg0 = true ∧ { cycle .wrAnalog with sched := [.reset] }.sched = .reset :: [] := by
  decide
theorem witness_OnlyLegalConfigurationsRun : cfgLegal { cfg0 with outflag2Base := 65531#16 } = false ∧
    cfgLegal { cfg0 with outflag2Base := 65530#16 } = true := by decide
theorem witness_FoldIsTheBitwiseParity : [0x01#8, 0x02#8].Perm [0x02#8, 0x01#8] := by decide
/-- The payload of L1-1. -/
theorem witness_GoodPayloadRoundTrips :
    let p : List Byte := [0xAA#8, 0x12#8, 0x34#8, 0x56#8, 0x78#8, 0x9A#8, 0x81#8, 0x3C#8, 0x25#8]
    p.length = 9 ∧ byteAt p 0 = 0xAA#8 ∧ xorfold p = 0xA0#8 := by decide
/-- L1-2, D-8 to D-10, and D-13: the frame decodes, and the flips give what the vectors say. -/
theorem witness_SingleBitFlipIsCaught_PairedFlipsPassUnseen : (∃ f, codecDecode frameA = .ok f) ∧
    frameA.set 9 (byteAt frameA 9 ^^^ BitVec.twoPow 8 0) = frameBad ∧
    codecDecode frameBad = .error (.checksumMismatch 0xB8#8 0xB9#8) ∧
    codecDecode (frameA.set 0 (byteAt frameA 0 ^^^ BitVec.twoPow 8 7)) = .error (.badStartByte 0x2A#8) ∧
    ∃ g, codecDecode ((frameA.set 1 (byteAt frameA 1 ^^^ 1#8)).set 2 (byteAt frameA 2 ^^^ 1#8)) = .ok g :=
  ⟨⟨_, rfl⟩, by decide, by decide, by decide, ⟨_, rfl⟩⟩
theorem witness_WholeFrameFoldCheck : frameA.length = 10 ∧ xorfold frameA = 0#8 ∧ xorfold frameBad = 1#8 := by decide
theorem witness_UnpackInvertsPack : (coilsOf 0x2081#16).length = 16 := by decide
theorem witness_DecodeReportsTheFirstFailure : frameBad.length = 10 ∧ byteAt frameBad 0 = 0xAA#8 ∧
    xorfold (frameBad.take 9) ≠ byteAt frameBad 9 ∧ byteAt (List.replicate 10 0x55#8) 0 ≠ 0xAA#8 := by decide
theorem witness_DecodeReportsTheFirstFailure_length : (frameA.take 9).length ≠ 10 ∧ (frameA ++ [0#8]).length ≠ 10 ∧
    codecDecode (frameA.take 9) = .error (.badLength 9) := by decide
theorem witness_OverrideReplyPacksSixteenCoils : (coilsOf 0x2081#16).length = 16 ∧ (List.replicate 15 true).length ≠ 16 ∧
    (List.replicate 17 true).length ≠ 16 := by decide
/-- G-1's request at its first and last register and the two next to them. -/
theorem witness_RequestCellsCarryTheirData_registers :
    let cfg : Config := { cfg0 with analogBase := 7#16 }
    let r : Request := ⟨0x10#8, 7#16, 5#5, 0x00020005000A00280032#80⟩
    IsAnalogWrite cfg [50#8, 40#8, 10#8, 5#8, 2#8] r ∧ registerWritten r 7 = some 50#16 ∧ registerWritten r 11 = some 2#16 ∧
      registerWritten r 6 = none ∧ registerWritten r 12 = none := by
  exact ⟨⟨rfl, rfl, rfl, by unfold CarriesChannels; decide⟩, by decide, by decide, by decide, by decide⟩
/-- G-6's request: coils 16 to 21 and the two next to them. -/
theorem witness_RequestCellsCarryTheirData_coils :
    let r : Request := ⟨0x0F#8, 16#16, 6#5, 0x25#80⟩
    IsCoilWrite 16#16 (BitVec.ofNat 5 6) 0x25#8 r ∧ coilWritten r 16 = some true ∧ coilWritten r 21 = some true ∧
      coilWritten r 20 = some false ∧ coilWritten r 15 = none ∧ coilWritten r 22 = none := by
  refine ⟨⟨rfl, rfl, rfl, fun k => ?_⟩, ?_, ?_, ?_, ?_, ?_⟩ <;> try decide
  show (BitVec.setWidth 80 0x25#8).getLsbD k = (0x25#8).getLsbD k
  simp only [BitVec.getLsbD_setWidth]
  rcases Nat.lt_or_ge k 80 with hk | hk
  · simp [hk]
  · rw [BitVec.getLsbD_of_ge _ _ (by omega), Bool.and_false]
/-- G-9's request: coils 8 to 21 and the two next to them, with the highest legal count at the top of the range beside it. -/
theorem witness_RequestCellsCarryTheirData_read :
    let r : Request := ⟨0x01#8, 8#16, 14#5, 0#80⟩
    let top : Request := ⟨0x01#8, 65520#16, 16#5, 0#80⟩
    IsCoilRead 8#16 (BitVec.ofNat 5 14) r ∧ coilRead r 0x2081#16 8 = some true ∧ coilRead r 0x2081#16 21 = some true ∧
      coilRead r 0x2081#16 20 = some false ∧ coilRead r 0xFFFF#16 7 = none ∧ coilRead r 0xFFFF#16 22 = none ∧
      IsCoilRead 65520#16 (BitVec.ofNat 5 16) top ∧ coilRead top 0x8000#16 65535 = some true :=
  ⟨⟨rfl, rfl, rfl, rfl⟩, by decide, by decide, by decide, by decide, by decide, ⟨rfl, rfl, rfl, rfl⟩, by decide⟩
theorem witness_StepKeepsInvariant : Inv frameReady ∧ ∃ t, step frameReady = .next t ∧ t.st = .decode :=
  ⟨inv_frameReady, _, rfl, rfl⟩
theorem witness_InvariantStatesAlwaysStep : Inv (cycle .wrAnalog) ∧ Inv normalWrite ∧ Inv overrideRead :=
  ⟨inv_wrAnalog, inv_normalWrite, inv_overrideRead⟩
theorem witness_ConfigurationAndInputsComeFromOutside :
    (∃ t, step { base with sched := [.link false true] } = .next t ∧ t.serLinkOk ≠ base.serLinkOk) ∧
    (∃ t, step { base with sched := [.clock 2#64] } = .next t ∧ t.wallclock ≠ base.wallclock) ∧
    cfgLegal base.cfg = true ∧ base.st ≠ .reserved :=
  ⟨⟨_, rfl, by decide⟩, ⟨_, rfl, by decide⟩, by decide, by decide⟩
theorem witness_HistoryGrowsByAtMostOneLog :
    ∃ t, step { base with serLinkOk := false } = .next t ∧ t.events = [.log 0x000100F5#32] ∧ t.cfg = cfg0 := ⟨_, rfl, rfl, rfl⟩
theorem witness_StickyFlagsHaveOneSetter :
    (∃ t, step { base with shutdown := true, rxOverflow := true } = .next t ∧ t.shutdown = true ∧ t.rxOverflow = true) ∧
    (∃ t, step { at_ .await with rxq := List.replicate 32 0#8, sched := [.rx 0x11#8] } = .next t ∧ t.rxOverflow = true) ∧
    (∃ t, step { base with sched := [.shutdown] } = .next t ∧ t.shutdown = true) :=
  ⟨⟨_, rfl, rfl, rfl⟩, ⟨_, rfl, rfl⟩, ⟨_, rfl, rfl⟩⟩
theorem witness_NoSecondRequestOutstanding :
    ∃ t, step { cycle .wrAnalog with pend := true } = .next t ∧ Adds { cycle .wrAnalog with pend := true } t [] := ⟨_, rfl, rfl⟩
theorem witness_FlagCoilsAreWrittenOnlyInNormal_write : Inv normalWrite ∧ ∃ t r, step normalWrite = .next t ∧
    Adds normalWrite t [.req r] ∧ r.fc = 0x0F#8 := ⟨inv_normalWrite, _, _, rfl, rfl, rfl⟩
theorem witness_FlagCoilsAreWrittenOnlyInNormal_read : Inv overrideRead ∧ ∃ t r, step overrideRead = .next t ∧
    Adds overrideRead t [.req r] ∧ r.fc = 0x01#8 ∧ r.cnt = 14#5 := ⟨inv_overrideRead, _, _, rfl, rfl, rfl, rfl⟩
theorem witness_FlagCoilsAreWrittenOnlyInNormal_query : Inv (cycle .rdOverride) ∧ ∃ t r, step (cycle .rdOverride) = .next t ∧
    Adds (cycle .rdOverride) t [.req r] ∧ r.fc = 0x01#8 ∧ r.cnt = 1#5 :=
  ⟨⟨by decide, by decide, rfl, by decide, frameHeld_cycle _, ⟨rfl, rfl⟩, rfl, ⟨rfl, rfl, rfl, rfl, rfl⟩⟩, _, _, rfl, rfl, rfl, rfl⟩
theorem witness_LeadByteTellsTheReplyLength_ack : Inv { ackWaiting with sched := [.accept] } ∧
    ∃ t, step { ackWaiting with sched := [.accept] } = .next t ∧ Adds { ackWaiting with sched := [.accept] } t [.tx 0xFF#8] :=
  ⟨inv_ackWaiting, _, rfl, rfl⟩
theorem witness_LeadByteTellsTheReplyLength_override : Inv { overrideWaiting with sched := [.accept] } ∧
    ∃ t, step { overrideWaiting with sched := [.accept] } = .next t ∧
      Adds { overrideWaiting with sched := [.accept] } t [.tx 0xBB#8] := ⟨inv_overrideWaiting, _, rfl, rfl⟩
theorem witness_NoCycleStartsAfterShutdown :
    (∃ t, step { frameReady with shutdown := true } = .next t ∧ t.st = .teardown) ∧
    (∃ t, step { at_ .decode with shutdown := true, sched := [.rx 0x11#8] } = .next t ∧ t.st = .decode) :=
  ⟨⟨_, rfl, rfl⟩, ⟨_, rfl, rfl⟩⟩
/-- DECODE with the frame buffered. -/
def decodeReady : State := { at_ .decode with rxq := frameA ++ [0x11#8] }
/-- CORE's turn in AWAIT, unscheduled and scheduled, with a frame buffered and shutdown set. -/
theorem witness_NoCycleStartsAfterShutdown_core :
    (∃ t, step { frameReady with shutdown := true, sched := [.core, .core] } = .next t ∧ t.st = .teardown) ∧
    { frameReady with shutdown := true }.sched = [] := ⟨⟨_, rfl, rfl⟩, rfl⟩
theorem witness_FifoChangesOnlyByRxAndDecode : Inv decodeReady ∧ ∃ t, step decodeReady = .next t ∧ t.rxq = [0x11#8] :=
  ⟨⟨by decide, by decide, rfl, by decide, by simp [decodeReady, at_, base, State.reset, PhaseOk, CycleCleared, frameA]⟩, _, rfl, rfl⟩
theorem inv_scheduled (more : List Stimulus) : Inv { frameReady with sched := more } :=
  ⟨inv_frameReady.legal, inv_frameReady.fifo, rfl, inv_frameReady.call, inv_frameReady.phase⟩
theorem witness_NormalCycleShape :
    let w := okWord 0xFFFE#16
    let s : State := { frameReady with sched := [.core, .core, .core, .rsp w, .core, .rsp w, .core, .rsp w, .core, .rsp w, .core,
      .rsp w, .accept, .core, .core] ++ [] }
    Inv s ∧ s.st = .await ∧ s.shutdown = false ∧ s.rxq = frameA ++ [0x11#8] ∧ frameA.length = 10 ∧ byteAt frameA 0 = 0xAA#8 ∧
      xorfold (frameA.take 9) = byteAt frameA 9 ∧ s.cfg.overrideCoil = some 100#16 ∧ w.ok = true ∧ w.rdata.getLsbD 0 = false :=
  ⟨inv_scheduled _, rfl, rfl, rfl, rfl, by decide, by decide, rfl, rfl, by decide⟩
theorem witness_OverrideCycleShape :
    let w := okWord 0x0001#16
    let s : State := { frameReady with sched := [.core, .core, .core, .rsp w, .core, .rsp w, .core, .rsp w, .accept, .accept,
      .accept, .core, .core] ++ [] }
    Inv s ∧ s.st = .await ∧ s.shutdown = false ∧ s.rxq = frameA ++ [0x11#8] ∧ frameA.length = 10 ∧ byteAt frameA 0 = 0xAA#8 ∧
      xorfold (frameA.take 9) = byteAt frameA 9 ∧ s.cfg.overrideCoil = some 100#16 ∧ w.ok = true ∧ w.rdata.getLsbD 0 = true ∧
      IsPadded w.rdata s.cfg.actCount 0x0001#16 := by
  refine ⟨inv_scheduled _, rfl, rfl, rfl, rfl, by decide, by decide, rfl, rfl, by decide, fun k => ?_⟩
  show (0x0001#16).getLsbD k = (decide (k < 14) && (0x0001#16).getLsbD k)
  rcases Nat.lt_or_ge k 16 with hk | hk
  · revert k; decide
  · rw [BitVec.getLsbD_of_ge _ _ hk, Bool.and_false]
/-- emergencyStop set in one state and not in the other: related, and the first steps, in the write
that carries the flags. -/
theorem witness_ControlIgnoresTheInputFlags : (cycle .wrInflags).inF = some 0x04#8 ∧
    DifferInInF (cycle .wrInflags) { cycle .wrInflags with inF := some 0x84#8 } ∧
    ∃ t, step (cycle .wrInflags) = .next t ∧ t.pend = true := ⟨rfl, ⟨rfl, rfl, .nil⟩, _, rfl, rfl⟩
theorem witness_SameFrameSameRequests : (cycle .wrAnalog).pend = false ∧
    (cycle .wrAnalog).level1 = { cycle .persist with rxOverflow := true }.level1 ∧
    ∃ t r, exec .writeAnalog (cycle .wrAnalog) = .next t ∧ Adds (cycle .wrAnalog) t [.req r] := ⟨rfl, rfl, _, _, rfl, rfl⟩

end Sys2Proof.Tests
end

section
/-! PROOFS. The statements of 10_state.md: the invariant and its step, what a step leaves of the registers outside the cycle,
the fetch of the instruction in `st`, and the legal configurations. -/

namespace Sys2Proof.Safety

open Sys2Proof.Machine

/-! ### Legal configurations -/

/-- The conditions of R23 as `cfgLegal` computes them, read as propositions. -/
theorem cfgLegal_iff (c : Config) : cfgLegal c = true ↔
    c.analogBase.toNat + 5 ≤ 65536 ∧ c.inflagBase.toNat + 8 ≤ 65536 ∧ c.outflagBase.toNat + 8 ≤ 65536 ∧
      c.outflag2Base.toNat + 6 ≤ 65536 ∧ c.actBase.toNat + c.actCount ≤ 65536 ∧
      (c.actCount = 14 ∨ c.actCount = 15 ∨ c.actCount = 16) ∧ 10 ≤ c.rxDepth ∧ c.overrideCoil.isSome = true := by
  simp only [cfgLegal, rangeFits, Bool.and_eq_true, Bool.or_eq_true, decide_eq_true_eq, beq_iff_eq, and_assoc, or_assoc]

/-- A legal configuration gives the override coil. -/
theorem overrideCoil_of_legal {c : Config} (h : cfgLegal c = true) : ∃ coil, c.overrideCoil = some coil := by
  obtain ⟨-, -, -, -, -, -, -, hcoil⟩ := (cfgLegal_iff c).1 h
  exact Option.isSome_iff_exists.1 hcoil

/-- The range of one coil never wraps, so R23 asks of the override coil only that it is given. -/
theorem overrideCoil_fits_iff (c : Config) :
    (∃ coil, c.overrideCoil = some coil ∧ coil.toNat + 1 ≤ 65536) ↔ c.overrideCoil.isSome = true := by
  rw [Option.isSome_iff_exists]
  constructor
  · rintro ⟨coil, hcoil, -⟩
    exact ⟨coil, hcoil⟩
  · rintro ⟨coil, hcoil⟩
    exact ⟨coil, hcoil, coil.isLt⟩

/-- In a legal configuration a step is the turn of whoever is next. -/
theorem step_of_legal {s : State} (h : cfgLegal s.cfg = true) : step s = turn s := by
  simp [step, h]

/-- An illegal configuration is refused (R23). -/
theorem step_of_illegal {s : State} (h : cfgLegal s.cfg = false) : step s = .refused .illegalConfiguration := by
  simp [step, h]

/-- Settles O34: the conditions agree one by one, up to the bound every 16-bit coil meets. -/
theorem onlyLegalConfigurationsRun : Obligations.OnlyLegalConfigurationsRun := by
  refine ⟨fun c => ?_, fun s => step_of_illegal⟩
  rw [overrideCoil_fits_iff]
  exact cfgLegal_iff c

/-! ### Whose turn it is -/

/-- The word of a state's instruction is that state's code (30_encoding.md R100). -/
theorem encode_instrOfSt (cfg : Config) (st : St) : encode cfg (instrOfSt st) = .stateCode (stCode st) := by
  cases st <;> rfl

/-- The reserved code gives its fault whatever else the state holds (42_bridge_loop.md R216). -/
theorem runCore_of_reserved {s : State} (h : s.st = .reserved) : runCore s = .fault .reservedState := by
  rw [runCore_eq_exec, h]; rfl

theorem turn_nil {s : State} (h : s.sched = []) : turn s = runCore s := by
  simp [turn, h]

/-- Outside the reserved code the scheduled stimulus takes its turn. -/
theorem turn_cons {s : State} {e : Stimulus} {rest : List Stimulus} (h : s.sched = e :: rest) (hst : s.st ≠ .reserved) :
    turn s = stimulate e { s with sched := rest } := by
  simp [turn, h, hst]

/-- A scheduled turn of CORE runs it on the state less that turn, at the reserved code too, where both are the fault. -/
theorem turn_core {s : State} {rest : List Stimulus} (h : s.sched = .core :: rest) :
    turn s = runCore { s with sched := rest } := by
  by_cases hst : s.st = .reserved
  · calc turn s = runCore s := by simp [turn, h, hst]
      _ = .fault .reservedState := runCore_of_reserved hst
      _ = runCore { s with sched := rest } := (runCore_of_reserved (s := { s with sched := rest }) hst).symm
  · exact turn_cons h hst

/-- Settles O5: the code in `st` decodes to the instruction that CORE's turn runs, and encodes it back. -/
theorem stepRunsTheFetchedInstruction : Obligations.StepRunsTheFetchedInstruction := by
  intro s i hlegal hdecode
  obtain rfl : instrOfSt s.st = i := by simpa [decode] using hdecode
  refine ⟨fun hs => ?_, fun rest hs => ?_, encode_instrOfSt s.cfg s.st⟩
  · rw [step_of_legal hlegal, turn_nil hs, runCore_eq_exec]
  · rw [step_of_legal hlegal, turn_core hs, runCore_eq_exec]

/-! ### The invariant without its phase

`Idle` is what the invariant asks of the configuration, the FIFO and the port when no request is outstanding. It names only
registers that the cycle's own writes leave alone, so that a proof of `Idle s` is one of `Idle t` for each such write `t`. -/

/-- A legal configuration, a FIFO within its depth, and nothing on the PLC port. -/
def Idle (s : State) : Prop :=
  cfgLegal s.cfg = true ∧ s.rxq.length ≤ s.cfg.rxDepth ∧ s.rspIn = none ∧ s.pend = false

/-- With the registers of the phase, an idle port is the invariant. -/
theorem Idle.inv {s : State} (h : Idle s) (hphase : PhaseOk s) : Inv s := by
  obtain ⟨hlegal, hfifo, hport, hpend⟩ := h
  exact ⟨hlegal, hfifo, hport, fun hcall => absurd hcall (by simp [hpend]), hphase⟩

/-- A state that CORE's turn can find: the invariant, or the invariant with the response to the outstanding request shown
(42_bridge_loop.md R219). -/
structure CoreReady (s : State) : Prop where
  legal : cfgLegal s.cfg = true
  fifo : s.rxq.length ≤ s.cfg.rxDepth
  port : s.pend = false → s.rspIn = none
  call : s.pend = true → (plcOpOf s.st).isSome = true
  phase : PhaseOk s

theorem Inv.coreReady {s : State} (h : Inv s) : CoreReady s :=
  ⟨h.legal, h.fifo, fun _ => h.port, h.call, h.phase⟩

/-- With no response shown CORE's turn finds the invariant. -/
theorem CoreReady.inv {s : State} (h : CoreReady s) (hport : s.rspIn = none) : Inv s :=
  ⟨h.legal, h.fifo, hport, h.call, h.phase⟩

/-- In a state that makes no PLC call the port is idle. -/
theorem CoreReady.idle {s : State} (h : CoreReady s) (hst : plcOpOf s.st = none) : Idle s := by
  have hpend : s.pend = false := Bool.eq_false_iff.2 fun hp => absurd (h.call hp) (by simp [hst])
  exact ⟨h.legal, h.fifo, h.port hpend, hpend⟩

/-- In a state that makes no PLC call no response can be shown, so CORE's turn finds the invariant. -/
theorem CoreReady.inv_of_noCall {s : State} (h : CoreReady s) (hst : plcOpOf s.st = none) : Inv s :=
  (h.idle hst).inv h.phase

/-- Consuming the response leaves the port idle. -/
theorem CoreReady.idle_clearPend {s : State} (h : CoreReady s) : Idle (clearPend s) :=
  ⟨h.legal, h.fifo, rfl, rfl⟩

/-! ### The registers each phase lets CORE read -/

/-- With a SensorFrame held and a legal configuration every operation has its operands. -/
theorem operandsOf_next {s : State} (hlegal : cfgLegal s.cfg = true) (hframe : FrameHeld s) (op : GatewayOp) :
    ∃ rq, operandsOf op s = .next rq := by
  obtain ⟨bs, f, -, -, hl1, hl2, htds, hflow, hpressure, hin, hout, hout2, -⟩ := hframe
  obtain ⟨coil, hcoil⟩ := overrideCoil_of_legal hlegal
  cases op with
  | writeAnalog => simp [operandsOf, hl1, hl2, htds, hflow, hpressure]
  | writeInputFlags => simp [operandsOf, hin]
  | writeOutputFlags => simp [operandsOf, hout]
  | writeOutputFlags2 => simp [operandsOf, hout2]
  | readOverrideFlag => simp [operandsOf, hcoil]
  | readActuatorCoils => simp [operandsOf]

/-- With a SensorFrame held and a reply prepared the record has all its bytes (30_encoding.md R103). -/
theorem recordOf_next {s : State} (hframe : FrameHeld s) (hreply : AckReady s ∨ OverrideReady s) :
    ∃ rec, recordOf s = .next rec := by
  obtain ⟨bs, f, -, -, hl1, hl2, htds, hflow, hpressure, hin, hout, hout2, -⟩ := hframe
  rcases hreply with ⟨⟨hovr, -⟩, -⟩ | ⟨⟨hovr, -⟩, a, hact, -⟩
  · simp [recordOf, hl1, hl2, htds, hflow, hpressure, hin, hout, hout2, hovr]
  · simp [recordOf, hl1, hl2, htds, hflow, hpressure, hin, hout, hout2, hovr, hact]

/-- Every byte of a prepared reply that is still to be sent is held. -/
theorem offered_next {s : State} (hreply : AckReady s ∨ OverrideReady s) (hlt : s.txi < s.txn) :
    ∃ b, offered s = .next b := by
  rcases hreply with ⟨-, -, h0, hn⟩ | ⟨-, a, -, -, h0, h1, h2, hn⟩
  · have hi : s.txi = 0 := by omega
    simp [offered, txReg, hi, h0]
  · obtain hi | hi | hi : s.txi = 0 ∨ s.txi = 1 ∨ s.txi = 2 := by omega
    · simp [offered, txReg, hi, h0]
    · simp [offered, txReg, hi, h1]
    · simp [offered, txReg, hi, h2]

/-- Bit `k` of a padded coil read (40_codec.md R141). -/
theorem pad16_getLsbD (rdata : BitVec 16) (n k : Nat) :
    (pad16 rdata n).getLsbD k = (decide (k < n) && rdata.getLsbD k) := by
  rcases Nat.lt_or_ge k 16 with hk | hk
  · rw [pad16, BitVec.getLsbD_and, BitVec.getLsbD_ofNat, Nat.testBit_two_pow_sub_one, decide_eq_true hk, Bool.true_and,
      Bool.and_comm]
  · simp [BitVec.getLsbD_of_ge _ _ hk]

/-! ### CORE's turn in each state

Each lemma says two things at once of a turn from the invariant: it answers a next state, and that state has it too. -/

/-- The outcome is a next state, and it has the invariant. -/
def Answers (o : Host.Outcome State Fault Refusal) : Prop := ∃ t, o = .next t ∧ Inv t

/-- Every return to AWAIT with an idle port has the invariant (10_state.md R33). -/
theorem Idle.inv_enterAwait {s : State} (h : Idle s) : Inv (enterAwait s) := by
  have hidle : Idle (enterAwait s) := h
  have hcleared : CycleCleared (enterAwait s) := by simp [CycleCleared]
  exact hidle.inv hcleared

theorem execStInit_answers {s : State} (h : Idle s) (hclear : CycleCleared s) : Answers (execStInit s) := by
  refine ⟨_, rfl, ?_⟩
  split
  · exact h.inv_enterAwait
  · have hidle : Idle (takeError (.startup (!s.serLinkOk) (!s.plcLinkOk)) s) := h
    exact hidle.inv hclear

theorem execStAwait_answers {s : State} (h : Inv s) (hidle : Idle s) (hclear : CycleCleared s) :
    Answers (execStAwait s) := by
  unfold execStAwait
  split
  · have hteardown : Idle { s with st := .teardown } := hidle
    exact ⟨_, rfl, hteardown.inv hclear⟩
  · split
    · rename_i hten
      have hdecode : Idle { s with st := .decode } := hidle
      exact ⟨_, rfl, hdecode.inv ⟨hclear, hten⟩⟩
    · exact ⟨s, rfl, h⟩

/-- DECODE drops ten bytes; the rest decodes to a held SensorFrame, or AWAIT is entered again. -/
theorem execStDecode_answers {s : State} (h : Idle s) (hclear : CycleCleared s) : Answers (execStDecode s) := by
  obtain ⟨hlegal, hfifo, hport, hpend⟩ := h
  have hfifo' : (s.rxq.drop 10).length ≤ s.cfg.rxDepth := by rw [List.length_drop]; omega
  have hpopped : Idle { s with rxq := s.rxq.drop 10 } := ⟨hlegal, hfifo', hport, hpend⟩
  refine ⟨_, rfl, ?_⟩
  rw [rxPop_fst, rxPop_snd]
  rcases decodeBytes_cases (s.rxq.take 10) { s with rxq := s.rxq.drop 10 } with ⟨f, hf, ht⟩ | ⟨e, -, ht⟩
  · obtain ⟨-, -, -, -, -, -, -, -, -, -, hovr, hovrV, hact, hreply⟩ := hclear
    rw [ht]
    exact Idle.inv hpopped
      ⟨⟨_, f, rfl, hf, rfl, rfl, rfl, rfl, rfl, rfl, rfl, rfl, rfl⟩, ⟨hovr, hovrV⟩, hact, hreply⟩
  · rw [ht]
    exact Idle.inv_enterAwait hpopped

/-- A PLC state holds, issues its request, takes its gateway error to BACKOFF, or goes on as `onOk` says; the last is left
to each state. -/
theorem runPlcState_answers {op : GatewayOp} {onOk : BitVec 16 → State → Host.Outcome State Fault Refusal} {s : State}
    (h : CoreReady s) (hst : (plcOpOf s.st).isSome = true) (hframe : FrameHeld s) (hreply : NoReply s)
    (hok : ∀ d, Idle (clearPend s) → Answers (onOk d (clearPend s))) : Answers (runPlcState op onOk s) := by
  obtain ⟨rq, hrq⟩ := operandsOf_next h.legal hframe op
  unfold runPlcState
  rcases plcCall_cases op s with ⟨-, hrsp, hc⟩ | ⟨r, -, -, hc⟩ | ⟨rq', -, -, hc⟩ | ⟨f, -, hop, -⟩ | ⟨r, -, hop, -⟩
  · rw [hc]
    exact ⟨s, rfl, h.inv hrsp⟩
  · rw [hc]
    cases hd : responseOf r with
    | ok d => exact hok d h.idle_clearPend
    | err c =>
      have hidle : Idle (takeError (.gateway op c) (clearPend s)) := h.idle_clearPend
      exact ⟨_, rfl, hidle.inv ⟨hframe, hreply⟩⟩
  · rw [hc]
    exact ⟨_, rfl, h.legal, h.fifo, rfl, fun _ => hst, h.phase⟩
  · rw [hrq] at hop; cases hop
  · rw [hrq] at hop; cases hop

/-- The override query selects the rest of the cycle by the mode it has stored (42_bridge_loop.md R205). -/
theorem overrideSelect_answers {s : State} (d : BitVec 16) (h : Idle s) (hframe : FrameHeld s) (hact : s.act = none)
    (hreply : NoReply s) :
    Answers (.next { setOvr (overrideOf d) s with st := if overrideOf d then .rdActuators else .wrInflags }) := by
  refine ⟨_, rfl, ?_⟩
  cases overrideOf d with
  | false => exact Idle.inv h ⟨hframe, ⟨rfl, rfl⟩, hact, hreply⟩
  | true => exact Idle.inv h ⟨hframe, ⟨rfl, rfl⟩, hact, hreply⟩

/-- The acknowledge loaded in a NORMAL cycle is the reply SEND_REPLY waits on (42_bridge_loop.md R208). -/
theorem inv_loadReply_ack {s : State} (h : Idle s) (hframe : FrameHeld s) (hmode : ModeIs false s) (hact : s.act = none) :
    Inv (loadReply encodeAck s) :=
  Idle.inv h ⟨hframe, .inl ⟨hmode, hact, rfl, rfl⟩, Nat.zero_le _⟩

/-- The padded image is stored and its reply loaded (42_bridge_loop.md R209). -/
theorem execStRdActuators_answers {s : State} (h : CoreReady s) (hst : s.st = .rdActuators) (hframe : FrameHeld s)
    (hmode : ModeIs true s) (hreply : NoReply s) : Answers (execStRdActuators s) := by
  refine runPlcState_answers h (by rw [hst]; rfl) hframe hreply fun d hidle => ?_
  have hpad : ∀ k, s.cfg.actCount ≤ k → (actuatorsOf s.cfg d).getLsbD k = false := fun k hk => by
    rw [actuatorsOf, pad16_getLsbD, decide_eq_false (by omega), Bool.false_and]
  simp only [encodeOverride_coilsOf]
  exact ⟨_, rfl, Idle.inv hidle ⟨hframe, .inr ⟨hmode, _, rfl, hpad, rfl, rfl, rfl, rfl⟩, Nat.zero_le _⟩⟩

theorem execStSendReply_answers {s : State} (h : Inv s) (hidle : Idle s) (hframe : FrameHeld s)
    (hreply : AckReady s ∨ OverrideReady s) : Answers (execStSendReply s) := by
  unfold execStSendReply
  split
  · obtain ⟨b, hb⟩ := offered_next hreply ‹_›
    exact ⟨s, by simp only [hb, hold], h⟩
  · split
    · rename_i hsent
      exact ⟨_, rfl, Idle.inv hidle ⟨hframe, hreply, hsent⟩⟩
    · exact ⟨s, rfl, h⟩

theorem execStPersist_answers {s : State} (h : Idle s) (hframe : FrameHeld s) (hreply : AckReady s ∨ OverrideReady s) :
    Answers (execStPersist s) := by
  obtain ⟨rec, hrec⟩ := recordOf_next hframe hreply
  have hidle : Idle (persistEmit rec s) := h
  exact ⟨_, by simp only [execStPersist, hrec], hidle.inv_enterAwait⟩

/-- CORE's turn answers a state of the invariant, state by state. -/
theorem exec_answers {s : State} (h : CoreReady s) : Answers (exec (instrOfSt s.st) s) := by
  have hphase := h.phase
  have hidle := h.idle
  have hinv := h.inv_of_noCall
  cases hst : s.st <;> simp only [PhaseOk, hst] at hphase hidle hinv
  case init => exact execStInit_answers (hidle rfl) hphase
  case await => exact execStAwait_answers (hinv rfl) (hidle rfl) hphase
  case decode =>
    obtain ⟨hclear, -⟩ := hphase
    exact execStDecode_answers (hidle rfl) hclear
  case wrAnalog | wrInflags | wrOutflags =>
    obtain ⟨hframe, hmode, hact, hreply⟩ := hphase
    exact runPlcState_answers h (by rw [hst]; rfl) hframe hreply fun d hi =>
      ⟨_, rfl, Idle.inv hi ⟨hframe, hmode, hact, hreply⟩⟩
  case rdOverride =>
    obtain ⟨hframe, -, hact, hreply⟩ := hphase
    exact runPlcState_answers h (by rw [hst]; rfl) hframe hreply fun d hi =>
      overrideSelect_answers d hi hframe hact hreply
  case wrOutflags2 =>
    obtain ⟨hframe, hmode, hact, hreply⟩ := hphase
    exact runPlcState_answers h (by rw [hst]; rfl) hframe hreply fun d hi =>
      ⟨_, rfl, inv_loadReply_ack hi hframe hmode hact⟩
  case rdActuators =>
    obtain ⟨hframe, hmode, -, hreply⟩ := hphase
    exact execStRdActuators_answers h hst hframe hmode hreply
  case sendReply =>
    obtain ⟨hframe, hreply, -⟩ := hphase
    exact execStSendReply_answers (hinv rfl) (hidle rfl) hframe hreply
  case persist =>
    obtain ⟨hframe, hreply, -⟩ := hphase
    exact execStPersist_answers (hidle rfl) hframe hreply
  case backoff => exact ⟨_, rfl, (hidle rfl).inv_enterAwait⟩
  case teardown => exact ⟨_, rfl, Idle.inv (hidle rfl) hphase⟩
  case halted | failed => exact ⟨s, rfl, hinv rfl⟩

/-! ### The other agents' turns -/

/-- A byte appended to the FIFO leaves every phase as it is; DECODE still has its ten bytes. -/
theorem PhaseOk.append_rxq {s : State} (h : PhaseOk s) (b : Byte) : PhaseOk { s with rxq := s.rxq ++ [b] } := by
  cases hst : s.st <;> simp only [PhaseOk, hst] at h ⊢
  case decode =>
    obtain ⟨hclear, hten⟩ := h
    exact ⟨hclear, by rw [List.length_append]; omega⟩
  all_goals exact h

theorem inv_rxByte {s : State} (h : Inv s) (b : Byte) : Inv (rxByte b s) := by
  rcases rxByte_cases b s with ⟨-, ht⟩ | ⟨-, hroom, ht⟩ | ⟨-, -, ht⟩
  · rw [ht]; exact h
  · rw [ht]
    have hfifo : (s.rxq ++ [b]).length ≤ s.cfg.rxDepth := by simpa using hroom
    exact ⟨h.legal, hfifo, h.port, h.call, h.phase.append_rxq b⟩
  · rw [ht]
    exact ⟨h.legal, h.fifo, h.port, h.call, h.phase⟩

theorem plcRespond_answers {s : State} (h : Inv s) (r : RspWord) : Answers (plcRespond r s) := by
  unfold plcRespond
  split
  · rename_i hen
    obtain ⟨hpend, -⟩ : s.pend = true ∧ (plcOpOf s.st).isSome = true := by simpa [plcEnabled] using hen
    have hready : CoreReady (emit (.rsp r) { s with rspIn := some r }) :=
      ⟨h.legal, h.fifo, fun hp => absurd (hpend.symm.trans hp) (by decide), h.call, h.phase⟩
    rw [runCore_eq_exec]
    exact exec_answers hready
  · exact ⟨s, rfl, h⟩

theorem txAccept_answers {s : State} (h : Inv s) : Answers (txAccept s) := by
  unfold txAccept
  split
  · rename_i hen
    obtain ⟨hst, hlt⟩ : s.st = .sendReply ∧ s.txi < s.txn := by simpa [txEnabled] using hen
    have hphase := h.phase
    simp only [PhaseOk, hst] at hphase
    obtain ⟨hframe, hreply, -⟩ := hphase
    obtain ⟨b, hb⟩ := offered_next hreply hlt
    refine ⟨emit (.tx b) { s with txi := s.txi + 1 }, by simp only [hb], h.legal, h.fifo, h.port, h.call, ?_⟩
    simp only [PhaseOk, emit_st, hst]
    exact ⟨hframe, hreply, hlt⟩
  · exact ⟨s, rfl, h⟩

theorem inv_resetBlock {s : State} (h : Inv s) : Inv (resetBlock s) := by
  have hidle : Idle (resetBlock s) := ⟨h.legal, Nat.zero_le _, rfl, rfl⟩
  have hcleared : CycleCleared (resetBlock s) := by simp [CycleCleared, resetBlock, State.reset]
  exact hidle.inv hcleared

theorem stimulate_answers {s : State} (h : Inv s) (e : Stimulus) : Answers (stimulate e s) := by
  cases e with
  | core =>
    rw [stimulate, runCore_eq_exec]
    exact exec_answers h.coreReady
  | rx b => exact ⟨_, rfl, inv_rxByte h b⟩
  | shutdown => exact ⟨_, rfl, h.legal, h.fifo, h.port, h.call, h.phase⟩
  | rsp r => exact plcRespond_answers h r
  | accept => exact txAccept_answers h
  | reset => exact ⟨_, rfl, inv_resetBlock h⟩
  | link ser plc => exact ⟨_, rfl, h.legal, h.fifo, h.port, h.call, h.phase⟩
  | clock ts => exact ⟨_, rfl, h.legal, h.fifo, h.port, h.call, h.phase⟩

/-- The reserved code has no phase. -/
theorem Inv.st_ne_reserved {s : State} (h : Inv s) : s.st ≠ .reserved := by
  intro hst
  have hphase := h.phase
  simp only [PhaseOk, hst] at hphase

/-- From the invariant every step answers a state of the invariant. -/
theorem step_answers {s : State} (h : Inv s) : Answers (step s) := by
  rw [step_of_legal h.legal]
  cases hs : s.sched with
  | nil =>
    rw [turn_nil hs, runCore_eq_exec]
    exact exec_answers h.coreReady
  | cons e rest =>
    have hrest : Inv { s with sched := rest } := ⟨h.legal, h.fifo, h.port, h.call, h.phase⟩
    rw [turn_cons hs h.st_ne_reserved]
    exact stimulate_answers hrest e

/-- Settles O45: the state a step answers is the one `step_answers` gives the invariant of. -/
theorem stepKeepsInvariant : Obligations.StepKeepsInvariant := by
  intro s t h hstep
  obtain ⟨t', ht', hinv⟩ := step_answers h
  obtain rfl : t' = t := by simpa [hstep] using ht'.symm
  exact hinv

/-- Settles O46: the other half of `step_answers`. -/
theorem invariantStatesAlwaysStep : Obligations.InvariantStatesAlwaysStep := by
  intro s h
  obtain ⟨t, ht, -⟩ := step_answers h
  exact ⟨t, ht⟩

/-! ### The registers outside the cycle

The configuration, the FIFO, the sticky flags and the inputs: what the cycle's own writes leave alone, all but DECODE's pop. -/

/-- The registers outside the cycle. -/
structure Outside where
  cfg : Config
  rxq : List Byte
  rxOverflow : Bool
  shutdown : Bool
  serLinkOk : Bool
  plcLinkOk : Bool
  wallclock : BitVec 64

/-- What a state holds in them. -/
def outside (s : State) : Outside where
  cfg := s.cfg
  rxq := s.rxq
  rxOverflow := s.rxOverflow
  shutdown := s.shutdown
  serLinkOk := s.serLinkOk
  plcLinkOk := s.plcLinkOk
  wallclock := s.wallclock

theorem outside_takeError (e : BlockError) (s : State) : outside (takeError e s) = outside s := by
  rcases takeError_cases e s with ⟨-, ht⟩ | ⟨-, ht⟩ | ⟨-, ht⟩ <;> rw [ht] <;> rfl

theorem outside_decodeBytes (bs : List Byte) (s : State) : outside (decodeBytes bs s) = outside s := by
  rcases decodeBytes_cases bs s with ⟨f, -, ht⟩ | ⟨e, -, ht⟩ <;> rw [ht] <;> rfl

/-- A PLC state leaves the registers outside the cycle alone when what follows its response does. -/
theorem outside_runPlcState {op : GatewayOp} {onOk : BitVec 16 → State → Host.Outcome State Fault Refusal} {s t : State}
    (h : runPlcState op onOk s = .next t)
    (hok : ∀ d, onOk d (clearPend s) = .next t → outside t = outside (clearPend s)) : outside t = outside s := by
  rcases runPlcState_next h with ⟨-, -, rfl⟩ | ⟨rq, -, -, rfl⟩ | ⟨r, d, -, -, -, hd⟩ | ⟨r, c, -, -, -, rfl⟩
  · rfl
  · rfl
  · exact hok d hd
  · exact outside_takeError (.gateway op c) (clearPend s)

theorem outside_execStInit {s t : State} (h : execStInit s = .next t) : outside t = outside s := by
  obtain rfl := Host.Outcome.next.inj h
  split
  · rfl
  · exact outside_takeError (.startup (!s.serLinkOk) (!s.plcLinkOk)) s

theorem outside_execStAwait {s t : State} (h : execStAwait s = .next t) : outside t = outside s := by
  unfold execStAwait hold at h
  split at h
  · obtain rfl := Host.Outcome.next.inj h; rfl
  · split at h
    · obtain rfl := Host.Outcome.next.inj h; rfl
    · obtain rfl := Host.Outcome.next.inj h; rfl

/-- DECODE takes ten bytes from the head of the FIFO, whatever the outcome of the decode (42_bridge_loop.md R203). -/
theorem outside_execStDecode {s t : State} (h : execStDecode s = .next t) :
    outside t = { outside s with rxq := s.rxq.drop 10 } := by
  obtain rfl := Host.Outcome.next.inj h
  exact outside_decodeBytes (s.rxq.take 10) { s with rxq := s.rxq.drop 10 }

theorem outside_execStRdActuators {s t : State} (h : execStRdActuators s = .next t) : outside t = outside s := by
  refine outside_runPlcState h fun d hd => ?_
  rw [encodeOverride_coilsOf] at hd
  obtain rfl := Host.Outcome.next.inj hd
  rfl

theorem outside_execStSendReply {s t : State} (h : execStSendReply s = .next t) : outside t = outside s := by
  unfold execStSendReply hold at h
  split at h
  · split at h <;> cases h
    rfl
  · split at h
    · obtain rfl := Host.Outcome.next.inj h; rfl
    · obtain rfl := Host.Outcome.next.inj h; rfl

theorem outside_execStPersist {s t : State} (h : execStPersist s = .next t) : outside t = outside s := by
  unfold execStPersist at h
  split at h <;> cases h
  rfl

/-- CORE's turn leaves the registers outside the cycle alone, but for DECODE's pop. -/
theorem outside_exec {s t : State} (h : exec (instrOfSt s.st) s = .next t) :
    outside t = outside s ∨ (s.st = .decode ∧ outside t = { outside s with rxq := s.rxq.drop 10 }) := by
  cases hst : s.st <;> rw [hst] at h
  case decode => exact .inr ⟨rfl, outside_execStDecode h⟩
  case reserved => cases h
  all_goals left
  case init => exact outside_execStInit h
  case await => exact outside_execStAwait h
  case rdActuators => exact outside_execStRdActuators h
  case sendReply => exact outside_execStSendReply h
  case persist => exact outside_execStPersist h
  case wrAnalog | rdOverride | wrInflags | wrOutflags | wrOutflags2 =>
    exact outside_runPlcState h fun d hd => by obtain rfl := Host.Outcome.next.inj hd; rfl
  case backoff | teardown | halted | failed => obtain rfl := Host.Outcome.next.inj h; rfl

/-- Everything a step from `s` to `t` can do to the registers outside the cycle. -/
inductive OutsideStep (s t : State) : Prop
  /-- Nothing. -/
  | kept (ht : outside t = outside s)
  /-- DECODE pops its ten bytes. -/
  | popped (hst : s.st = .decode) (ht : outside t = { outside s with rxq := s.rxq.drop 10 })
  /-- RX stores a byte. -/
  | stored (b : Byte) (rest : List Stimulus) (hs : s.sched = .rx b :: rest) (hroom : s.rxq.length < s.cfg.rxDepth)
      (ht : outside t = { outside s with rxq := s.rxq ++ [b] })
  /-- RX drops a byte. -/
  | dropped (b : Byte) (rest : List Stimulus) (hs : s.sched = .rx b :: rest) (hfull : s.cfg.rxDepth ≤ s.rxq.length)
      (ht : outside t = { outside s with rxOverflow := true })
  /-- SHUT pulses. -/
  | pulsed (rest : List Stimulus) (hs : s.sched = .shutdown :: rest) (ht : outside t = { outside s with shutdown := true })
  /-- The link inputs take new values. -/
  | linked (ser plc : Bool) (rest : List Stimulus) (hs : s.sched = .link ser plc :: rest)
      (ht : outside t = { outside s with serLinkOk := ser, plcLinkOk := plc })
  /-- The wall clock takes a new value. -/
  | clocked (ts : BitVec 64) (rest : List Stimulus) (hs : s.sched = .clock ts :: rest)
      (ht : outside t = { outside s with wallclock := ts })
  /-- RST empties the FIFO and clears the flags. -/
  | cleared (hs : NextIsReset s)
      (ht : outside t = { outside s with rxq := [], rxOverflow := false, shutdown := false })

/-- A turn of CORE, seen from a state that agrees outside the cycle and in `st`. -/
theorem OutsideStep.of_exec {s s' t : State} (hout : outside s' = outside s) (hst : s'.st = s.st)
    (h : exec (instrOfSt s'.st) s' = .next t) : OutsideStep s t := by
  have hrxq : s'.rxq = s.rxq := congrArg Outside.rxq hout
  rcases outside_exec h with ht | ⟨hdecode, ht⟩
  · exact .kept (ht.trans hout)
  · exact .popped (hst.symm.trans hdecode) (by rw [ht, hout, hrxq])

theorem OutsideStep.of_stimulate {s t : State} {e : Stimulus} {rest : List Stimulus} (hs : s.sched = e :: rest)
    (h : stimulate e { s with sched := rest } = .next t) : OutsideStep s t := by
  cases e with
  | core =>
    rw [stimulate, runCore_eq_exec] at h
    exact .of_exec (s' := { s with sched := rest }) rfl rfl h
  | rx b =>
    obtain rfl := Host.Outcome.next.inj h
    rcases rxByte_cases b { s with sched := rest } with ⟨-, ht⟩ | ⟨-, hroom, ht⟩ | ⟨-, hfull, ht⟩
    · exact .kept (by rw [ht]; rfl)
    · exact .stored b rest hs hroom (by rw [ht]; rfl)
    · exact .dropped b rest hs hfull (by rw [ht]; rfl)
  | shutdown =>
    obtain rfl := Host.Outcome.next.inj h
    exact .pulsed rest hs rfl
  | rsp r =>
    rcases plcRespond_next h with ⟨-, hexec⟩ | ⟨-, rfl⟩
    · exact .of_exec (s' := emit (.rsp r) { s with sched := rest, rspIn := some r }) rfl rfl hexec
    · exact .kept rfl
  | accept =>
    rcases txAccept_next h with ⟨b, -, -, rfl⟩ | ⟨-, rfl⟩
    · exact .kept rfl
    · exact .kept rfl
  | reset =>
    obtain rfl := Host.Outcome.next.inj h
    exact .cleared ⟨rest, hs⟩ rfl
  | link ser plc =>
    obtain rfl := Host.Outcome.next.inj h
    exact .linked ser plc rest hs rfl
  | clock ts =>
    obtain rfl := Host.Outcome.next.inj h
    exact .clocked ts rest hs rfl

/-- Everything a step can do to the registers outside the cycle, whoever takes it. -/
theorem outsideStep_of_step {s t : State} (h : step s = .next t) : OutsideStep s t := by
  obtain ⟨-, ⟨-, hexec⟩ | ⟨-, hexec⟩ | ⟨e, rest, hs, -, hstim⟩⟩ := step_next h
  · exact .of_exec rfl rfl hexec
  · exact .of_exec rfl rfl hexec
  · exact .of_stimulate hs hstim

/-! ### One register at a time -/

theorem step_cfg {s t : State} (h : step s = .next t) : t.cfg = s.cfg := by
  cases outsideStep_of_step h <;> exact congrArg Outside.cfg ‹outside t = _›

/-- The link inputs keep their values, or it was a link stimulus (42_bridge_loop.md R201). -/
theorem step_links {s t : State} (h : step s = .next t) :
    (t.serLinkOk = s.serLinkOk ∧ t.plcLinkOk = s.plcLinkOk) ∨ ∃ ser plc rest, s.sched = .link ser plc :: rest := by
  cases outsideStep_of_step h
  case linked ser plc rest hs _ => exact .inr ⟨ser, plc, rest, hs⟩
  all_goals
    have ht := ‹outside t = _›
    exact .inl ⟨congrArg Outside.serLinkOk ht, congrArg Outside.plcLinkOk ht⟩

/-- The wall clock keeps its value, or it was a clock stimulus (42_bridge_loop.md R211). -/
theorem step_wallclock {s t : State} (h : step s = .next t) :
    t.wallclock = s.wallclock ∨ ∃ ts rest, s.sched = .clock ts :: rest := by
  cases outsideStep_of_step h
  case clocked ts rest hs _ => exact .inr ⟨ts, rest, hs⟩
  all_goals
    have ht := ‹outside t = _›
    exact .inl (congrArg Outside.wallclock ht)

/-- `rx_overflow` is kept, set by a byte dropped from a full FIFO, or cleared by reset (R25). -/
theorem step_rxOverflow {s t : State} (h : step s = .next t) :
    t.rxOverflow = s.rxOverflow ∨
    (t.rxOverflow = true ∧ s.cfg.rxDepth ≤ s.rxq.length ∧ ∃ b rest, s.sched = .rx b :: rest) ∨
    (t.rxOverflow = false ∧ NextIsReset s) := by
  cases outsideStep_of_step h
  case dropped b rest hs hfull ht => exact .inr (.inl ⟨congrArg Outside.rxOverflow ht, hfull, b, rest, hs⟩)
  case cleared hs ht => exact .inr (.inr ⟨congrArg Outside.rxOverflow ht, hs⟩)
  all_goals
    have ht := ‹outside t = _›
    exact .inl (congrArg Outside.rxOverflow ht)

/-- `shutdown` is kept, set by a shutdown pulse, or cleared by reset (R26). -/
theorem step_shutdown {s t : State} (h : step s = .next t) :
    t.shutdown = s.shutdown ∨ (t.shutdown = true ∧ ∃ rest, s.sched = .shutdown :: rest) ∨
    (t.shutdown = false ∧ NextIsReset s) := by
  cases outsideStep_of_step h
  case pulsed rest hs ht => exact .inr (.inl ⟨congrArg Outside.shutdown ht, rest, hs⟩)
  case cleared hs ht => exact .inr (.inr ⟨congrArg Outside.shutdown ht, hs⟩)
  all_goals
    have ht := ‹outside t = _›
    exact .inl (congrArg Outside.shutdown ht)

/-- The FIFO is kept, grows by a delivered byte, loses the ten bytes DECODE pops, or is emptied by reset (R24). -/
theorem step_rxq {s t : State} (h : step s = .next t) :
    t.rxq = s.rxq ∨
    (∃ b rest, s.sched = .rx b :: rest ∧ s.rxq.length < s.cfg.rxDepth ∧ t.rxq = s.rxq ++ [b]) ∨
    (s.st = .decode ∧ t.rxq = s.rxq.drop 10) ∨
    (NextIsReset s ∧ t.rxq = []) := by
  cases outsideStep_of_step h
  case stored b rest hs hroom ht => exact .inr (.inl ⟨b, rest, hs, hroom, congrArg Outside.rxq ht⟩)
  case popped hst ht => exact .inr (.inr (.inl ⟨hst, congrArg Outside.rxq ht⟩))
  case cleared hs ht => exact .inr (.inr (.inr ⟨hs, congrArg Outside.rxq ht⟩))
  all_goals
    have ht := ‹outside t = _›
    exact .inl (congrArg Outside.rxq ht)

/-- Settles O47: what is kept, from the registers one by one; what a stimulus sets, by running its turn. -/
theorem configurationAndInputsComeFromOutside : Obligations.ConfigurationAndInputsComeFromOutside := by
  refine ⟨fun s t h => ⟨step_cfg h, fun hne => ?_, fun hne => ?_⟩, fun s ser plc rest hlegal hst hs => ?_,
    fun s ts rest hlegal hst hs => ?_⟩
  · rcases step_links h with ⟨hser, hplc⟩ | hlink
    · exact hne.elim (absurd hser) (absurd hplc)
    · exact hlink
  · exact (step_wallclock h).resolve_left hne
  · rw [step_of_legal hlegal, turn_cons hs hst]; rfl
  · rw [step_of_legal hlegal, turn_cons hs hst]; rfl

/-- Settles O49: each flag's three cases, kept, set by its agent and cleared by reset, decide every clause. -/
theorem stickyFlagsHaveOneSetter : Obligations.StickyFlagsHaveOneSetter := by
  intro s t h
  refine ⟨fun hreset => ⟨fun hset => ?_, fun hset => ?_⟩, fun hclear hset => ?_, fun hclear hset => ?_, rfl, rfl⟩
  · rcases step_rxOverflow h with hkept | ⟨hnow, -⟩ | ⟨-, hr⟩
    · exact hkept.trans hset
    · exact hnow
    · exact absurd hr hreset
  · rcases step_shutdown h with hkept | ⟨hnow, -⟩ | ⟨-, hr⟩
    · exact hkept.trans hset
    · exact hnow
    · exact absurd hr hreset
  · rcases step_rxOverflow h with hkept | ⟨-, hcause⟩ | ⟨hnow, -⟩
    · simp [hkept, hclear] at hset
    · exact hcause
    · simp [hnow] at hset
  · rcases step_shutdown h with hkept | ⟨-, hcause⟩ | ⟨hnow, -⟩
    · simp [hkept, hclear] at hset
    · exact hcause
    · simp [hnow] at hset

/-- Settles O54: the invariant of `s` gives DECODE its ten bytes, that of `t` the bound. -/
theorem fifoChangesOnlyByRxAndDecode : Obligations.FifoChangesOnlyByRxAndDecode := by
  intro s t hinv h
  refine ⟨?_, (stepKeepsInvariant s t hinv h).fifo⟩
  rcases step_rxq h with hkept | hstored | ⟨hst, hpopped⟩ | hreset
  · exact .inl hkept
  · exact .inr (.inl hstored)
  · have hphase := hinv.phase
    simp only [PhaseOk, hst] at hphase
    obtain ⟨-, hten⟩ := hphase
    exact .inr (.inr (.inl ⟨hst, hten, hpopped⟩))
  · exact .inr (.inr (.inr hreset))

end Sys2Proof.Safety
end

section
/-! PROOFS. The statements of 20_memory.md: the receive port, the one outstanding PLC request, what a step adds to the history,
and what requests and responses mean to the PLC's cells. -/

namespace Sys2Proof.Safety

open Sys2Proof.Machine

/-! ### What a step adds to the history

`CoreAdds` lists what CORE's turn can add and `StepAdds` what any step can; a statement about the events a step adds is one case
split on them. Both name only what the schedule, the response port and the history itself leave alone. -/

/-- The events CORE's turn can add in `s` (42_bridge_loop.md R222). -/
inductive CoreAdds (s : State) : List Event → Prop
  | nothing : CoreAdds s []
  /-- A PLC state issues its request, with none outstanding (20_memory.md R67). -/
  | request (op : GatewayOp) (rq : Request) (hst : plcOpOf s.st = some op) (hpend : s.pend = false)
      (hrq : operandsOf op s = .next rq) : CoreAdds s [.req rq]
  /-- An error is entered: its one log word (60_exceptions.md R250). -/
  | logged (e : BlockError) : CoreAdds s [.log (errorWord e)]
  /-- PERSIST emits its record (42_bridge_loop.md R211). -/
  | record (rec : BitVec 152) (hst : s.st = .persist) : CoreAdds s [.pst rec]
  /-- TEARDOWN closes both links (42_bridge_loop.md R213). -/
  | closed (hst : s.st = .teardown) : CoreAdds s [.close .serial, .close .plc]

/-- The events a step can add in `s`, whoever takes it (42_bridge_loop.md R222). -/
inductive StepAdds (s : State) : List Event → Prop
  | core {es : List Event} (h : CoreAdds s es) : StepAdds s es
  /-- The response comes first, then what the completion part adds (42_bridge_loop.md R219). -/
  | answered (r : RspWord) {es : List Event} (hpend : s.pend = true) (h : CoreAdds s es) : StepAdds s (.rsp r :: es)
  | ignored : StepAdds s []
  | stored (b : Byte) : StepAdds s [.rx b]
  | dropped (b : Byte) : StepAdds s [.rxdrop b]
  | sent (b : Byte) : StepAdds s [.tx b]
  | pulsed : StepAdds s [.shutdown]
  | cleared : StepAdds s [.reset]

/-- A history that is as it was has nothing added. -/
theorem adds_nil {s t : State} (h : t.events = s.events) : Adds s t [] := by
  rw [Adds, h, List.append_nil]

/-- The events a step adds are determined by its two states. -/
theorem Adds.unique {s t : State} {es es' : List Event} (h : Adds s t es) (h' : Adds s t es') : es = es' :=
  List.append_cancel_left (h.symm.trans h')

theorem adds_takeError (e : BlockError) (s : State) : Adds s (takeError e s) [.log (errorWord e)] := by
  rcases takeError_cases e s with ⟨-, ht⟩ | ⟨-, ht⟩ | ⟨-, ht⟩ <;> rw [ht] <;> rfl

/-- Some of the events CORE can add in `s` lead to `t`. -/
def CoreAddsTo (s t : State) : Prop := ∃ es, CoreAdds s es ∧ Adds s t es

theorem CoreAddsTo.of_events_eq {s t : State} (h : t.events = s.events) : CoreAddsTo s t :=
  ⟨[], .nothing, adds_nil h⟩

/-- A PLC state adds its request, its gateway error's log word or nothing, when what follows a success adds nothing. -/
theorem coreAddsTo_runPlcState {op : GatewayOp} {onOk : BitVec 16 → State → Host.Outcome State Fault Refusal} {s t : State}
    (hst : plcOpOf s.st = some op) (h : runPlcState op onOk s = .next t)
    (hok : ∀ d, onOk d (clearPend s) = .next t → t.events = s.events) : CoreAddsTo s t := by
  rcases runPlcState_next h with ⟨-, -, rfl⟩ | ⟨rq, hpend, hrq, rfl⟩ | ⟨r, d, -, -, -, hd⟩ | ⟨r, c, -, -, -, rfl⟩
  · exact .of_events_eq rfl
  · exact ⟨_, .request op rq hst hpend hrq, rfl⟩
  · exact .of_events_eq (hok d hd)
  · exact ⟨_, .logged (.gateway op c), adds_takeError (.gateway op c) (clearPend s)⟩

theorem coreAddsTo_execStInit {s t : State} (h : execStInit s = .next t) : CoreAddsTo s t := by
  obtain rfl := Host.Outcome.next.inj h
  split
  · exact .of_events_eq rfl
  · exact ⟨_, .logged _, adds_takeError _ s⟩

theorem events_execStAwait {s t : State} (h : execStAwait s = .next t) : t.events = s.events := by
  unfold execStAwait hold at h
  split at h
  · obtain rfl := Host.Outcome.next.inj h; rfl
  · split at h <;> obtain rfl := Host.Outcome.next.inj h <;> rfl

theorem coreAddsTo_execStDecode {s t : State} (h : execStDecode s = .next t) : CoreAddsTo s t := by
  obtain rfl := Host.Outcome.next.inj h
  rw [rxPop_fst, rxPop_snd]
  rcases decodeBytes_cases (s.rxq.take 10) { s with rxq := s.rxq.drop 10 } with ⟨f, -, ht⟩ | ⟨e, -, ht⟩ <;> rw [ht]
  · exact .of_events_eq rfl
  · exact ⟨_, .logged (.framing e), rfl⟩

theorem coreAddsTo_execStRdActuators {s t : State} (hst : s.st = .rdActuators) (h : execStRdActuators s = .next t) :
    CoreAddsTo s t := by
  refine coreAddsTo_runPlcState (by rw [hst]; rfl) h fun d hd => ?_
  rw [encodeOverride_coilsOf] at hd
  obtain rfl := Host.Outcome.next.inj hd
  rfl

theorem events_execStSendReply {s t : State} (h : execStSendReply s = .next t) : t.events = s.events := by
  unfold execStSendReply hold at h
  split at h
  · split at h <;> cases h
    rfl
  · split at h <;> obtain rfl := Host.Outcome.next.inj h <;> rfl

theorem coreAddsTo_execStPersist {s t : State} (hst : s.st = .persist) (h : execStPersist s = .next t) :
    CoreAddsTo s t := by
  unfold execStPersist at h
  split at h <;> cases h
  exact ⟨_, .record _ hst, rfl⟩

/-- CORE's turn adds one of the lists of `CoreAdds`, state by state. -/
theorem coreAddsTo_exec {s t : State} (h : exec (instrOfSt s.st) s = .next t) : CoreAddsTo s t := by
  cases hst : s.st <;> rw [hst] at h
  case init => exact coreAddsTo_execStInit h
  case await => exact .of_events_eq (events_execStAwait h)
  case decode => exact coreAddsTo_execStDecode h
  case wrAnalog | rdOverride | wrInflags | wrOutflags | wrOutflags2 =>
    exact coreAddsTo_runPlcState (by rw [hst]; rfl) h fun d hd => by obtain rfl := Host.Outcome.next.inj hd; rfl
  case rdActuators => exact coreAddsTo_execStRdActuators hst h
  case sendReply => exact .of_events_eq (events_execStSendReply h)
  case persist => exact coreAddsTo_execStPersist hst h
  case teardown =>
    obtain rfl := Host.Outcome.next.inj h
    exact ⟨_, .closed hst, by simp [Adds]⟩
  case backoff | halted | failed => obtain rfl := Host.Outcome.next.inj h; exact .of_events_eq rfl
  case reserved => cases h

/-- The operands of a request stand in the configuration and the SensorFrame registers alone. -/
theorem operandsOf_setPort (op : GatewayOp) (s : State) (rsp : Option RspWord) (sched : List Stimulus) (es : List Event) :
    operandsOf op { s with rspIn := rsp, sched := sched, events := es } = operandsOf op s := by
  cases op <;> rfl

/-- What CORE can add does not depend on the response port, the schedule and the history. -/
theorem CoreAdds.of_setPort {s : State} {rsp : Option RspWord} {sched : List Stimulus} {hist es : List Event}
    (h : CoreAdds { s with rspIn := rsp, sched := sched, events := hist } es) : CoreAdds s es := by
  cases h with
  | nothing => exact .nothing
  | request op rq hst hpend hrq => exact .request op rq hst hpend ((operandsOf_setPort op s rsp sched hist).symm.trans hrq)
  | logged e => exact .logged e
  | record rec hst => exact .record rec hst
  | closed hst => exact .closed hst

/-- Some of the events a step can add in `s` lead to `t`. -/
def StepAddsTo (s t : State) : Prop := ∃ es, StepAdds s es ∧ Adds s t es

theorem StepAddsTo.of_exec {s t : State} (h : exec (instrOfSt s.st) s = .next t) : StepAddsTo s t := by
  obtain ⟨es, hcore, hadds⟩ := coreAddsTo_exec h
  exact ⟨es, .core hcore, hadds⟩

theorem StepAddsTo.of_plcRespond {r : RspWord} {s t : State} (h : plcRespond r s = .next t) : StepAddsTo s t := by
  rcases plcRespond_next h with ⟨hen, hexec⟩ | ⟨-, rfl⟩
  · have hpend : s.pend = true := by
      rw [plcEnabled, Bool.and_eq_true] at hen
      exact hen.left
    obtain ⟨es, hcore, hadds⟩ := coreAddsTo_exec (s := emit (.rsp r) { s with rspIn := some r }) hexec
    have hcore' : CoreAdds s es :=
      CoreAdds.of_setPort (rsp := some r) (sched := s.sched) (hist := s.events ++ [Event.rsp r]) hcore
    exact ⟨_, .answered r hpend hcore', by rw [Adds, hadds, emit_events, List.append_assoc]; rfl⟩
  · exact ⟨_, .ignored, adds_nil rfl⟩

theorem StepAddsTo.of_stimulate {e : Stimulus} {s t : State} (h : stimulate e s = .next t) : StepAddsTo s t := by
  cases e with
  | core =>
    rw [stimulate, runCore_eq_exec] at h
    exact .of_exec h
  | rx b =>
    obtain rfl := Host.Outcome.next.inj h
    rcases rxByte_cases b s with ⟨-, ht⟩ | ⟨-, -, ht⟩ | ⟨-, -, ht⟩ <;> rw [ht]
    · exact ⟨_, .ignored, adds_nil rfl⟩
    · exact ⟨_, .stored b, rfl⟩
    · exact ⟨_, .dropped b, rfl⟩
  | shutdown =>
    obtain rfl := Host.Outcome.next.inj h
    exact ⟨_, .pulsed, rfl⟩
  | rsp r => exact .of_plcRespond h
  | accept =>
    rcases txAccept_next h with ⟨b, -, -, rfl⟩ | ⟨-, rfl⟩
    · exact ⟨_, .sent b, rfl⟩
    · exact ⟨_, .ignored, adds_nil rfl⟩
  | reset =>
    obtain rfl := Host.Outcome.next.inj h
    exact ⟨_, .cleared, rfl⟩
  | link ser plc =>
    obtain rfl := Host.Outcome.next.inj h
    exact ⟨_, .ignored, adds_nil rfl⟩
  | clock ts =>
    obtain rfl := Host.Outcome.next.inj h
    exact ⟨_, .ignored, adds_nil rfl⟩

/-- What a step can add does not depend on the schedule. -/
theorem StepAdds.of_setSched {s : State} {sched : List Stimulus} {es : List Event}
    (h : StepAdds { s with sched := sched } es) : StepAdds s es := by
  cases h with
  | core hcore => exact .core (CoreAdds.of_setPort hcore)
  | answered r hpend hcore => exact .answered r hpend (CoreAdds.of_setPort hcore)
  | ignored => exact .ignored
  | stored b => exact .stored b
  | dropped b => exact .dropped b
  | sent b => exact .sent b
  | pulsed => exact .pulsed
  | cleared => exact .cleared

/-- Every step adds one of the lists of `StepAdds`, whoever takes it. -/
theorem stepAddsTo_of_step {s t : State} (h : step s = .next t) : StepAddsTo s t := by
  obtain ⟨-, ⟨-, hexec⟩ | ⟨-, hexec⟩ | ⟨e, rest, -, -, hstim⟩⟩ := step_next h
  · exact .of_exec hexec
  · exact .of_exec hexec
  · obtain ⟨es, hes, hadds⟩ := StepAddsTo.of_stimulate hstim
    exact ⟨es, hes.of_setSched, hadds⟩

/-! ### Log words and requests among the added events -/

theorem CoreAdds.countP_isLog_le_one {s : State} {es : List Event} (h : CoreAdds s es) : es.countP isLog ≤ 1 := by
  cases h <;> simp [isLog]

theorem StepAdds.countP_isLog_le_one {s : State} {es : List Event} (h : StepAdds s es) : es.countP isLog ≤ 1 := by
  cases h with
  | core hcore => exact hcore.countP_isLog_le_one
  | answered r hpend hcore => simpa [isLog] using hcore.countP_isLog_le_one
  | ignored | stored b | dropped b | sent b | pulsed | cleared => simp [isLog]

/-- The one event of CORE that is a request is issued with none outstanding (20_memory.md R67). -/
theorem CoreAdds.req_notMem {s : State} {es : List Event} (h : CoreAdds s es) (hpend : s.pend = true) (r : Request) :
    Event.req r ∉ es := by
  cases h with
  | request op rq hst hidle hrq => simp [hpend] at hidle
  | nothing | logged e | record rec hst | closed hst => simp

theorem StepAdds.req_notMem {s : State} {es : List Event} (h : StepAdds s es) (hpend : s.pend = true) (r : Request) :
    Event.req r ∉ es := by
  cases h with
  | core hcore => exact hcore.req_notMem hpend r
  | answered w _ hcore => simpa using hcore.req_notMem hpend r
  | ignored | stored b | dropped b | sent b | pulsed | cleared => simp

/-- Settles O48: each list that a step can add has at most one log word. -/
theorem historyGrowsByAtMostOneLog : Obligations.HistoryGrowsByAtMostOneLog := by
  intro s t h
  obtain ⟨es, hes, hadds⟩ := stepAddsTo_of_step h
  exact ⟨es, hadds, hes.countP_isLog_le_one⟩

/-- Settles O50: the events a step adds are one of the lists it can add, and only a list of `pend = 0` holds a request. -/
theorem noSecondRequestOutstanding : Obligations.NoSecondRequestOutstanding := by
  intro s t es hpend h hadds r
  obtain ⟨es', hes, hadds'⟩ := stepAddsTo_of_step h
  rw [hadds.unique hadds']
  exact hes.req_notMem hpend r

/-! ### What a request and its response say of a cell -/

/-- The value `value k` for cell `addr + k` of a request with function code `fc`, and none for any other cell: the shape that the
three readings of 20_memory.md R68 share. -/
def cellOf {α : Type} (fc : BitVec 8) (r : Request) (value : Nat → α) (a : Nat) : Option α :=
  if r.fc = fc ∧ inRange r a = true then some (value (a - r.addr.toNat)) else none

theorem registerWritten_eq_cellOf (r : Request) (a : Nat) :
    registerWritten r a = cellOf 0x10#8 r (fun k => r.wdata.extractLsb' (16 * k) 16) a := rfl

theorem coilWritten_eq_cellOf (r : Request) (a : Nat) :
    coilWritten r a = cellOf 0x0F#8 r (fun k => r.wdata.getLsbD k) a := rfl

theorem coilRead_eq_cellOf (r : Request) (rdata : BitVec 16) (a : Nat) :
    coilRead r rdata a = cellOf 0x01#8 r (fun k => rdata.getLsbD k) a := rfl

theorem inRange_iff (r : Request) (a : Nat) :
    inRange r a = true ↔ r.addr.toNat ≤ a ∧ a < r.addr.toNat + r.cnt.toNat := by
  simp [inRange]

section
variable {α : Type} {fc : BitVec 8} {r : Request} {value : Nat → α} {a k : Nat}

theorem cellOf_add (hfc : r.fc = fc) (hk : k < r.cnt.toNat) : cellOf fc r value (r.addr.toNat + k) = some (value k) := by
  have hin : inRange r (r.addr.toNat + k) = true := (inRange_iff _ _).2 ⟨by omega, by omega⟩
  rw [cellOf, if_pos ⟨hfc, hin⟩, Nat.add_sub_cancel_left]

theorem cellOf_outside (ha : a < r.addr.toNat ∨ r.addr.toNat + r.cnt.toNat ≤ a) : cellOf fc r value a = none := by
  refine if_neg fun ⟨_, hin⟩ => ?_
  obtain ⟨hlo, hhi⟩ := (inRange_iff _ _).1 hin
  omega

theorem cellOf_of_fc_ne (hfc : r.fc ≠ fc) : cellOf fc r value a = none :=
  if_neg fun ⟨h, _⟩ => hfc h

end

/-- A request of another kind says nothing of a register. -/
theorem registerWritten_of_fc_ne {r : Request} (h : r.fc ≠ 0x10#8) (a : Nat) : registerWritten r a = none := by
  rw [registerWritten_eq_cellOf, cellOf_of_fc_ne h]

/-- A request that is no coil write writes no coil. -/
theorem coilWritten_of_fc_ne {r : Request} (h : r.fc ≠ 0x0F#8) (a : Nat) : coilWritten r a = none :=
  cellOf_of_fc_ne h

/-- A request that is no coil read reads no coil. -/
theorem coilRead_of_fc_ne {r : Request} (h : r.fc ≠ 0x01#8) (rdata : BitVec 16) (a : Nat) : coilRead r rdata a = none :=
  cellOf_of_fc_ne h

/-- Register `k` of the write data is channel `k`. -/
theorem CarriesChannels.extractLsb' {wdata : BitVec 80} {channels : List Byte} (h : CarriesChannels wdata channels) {k : Nat}
    (hk : k < 5) : some (wdata.extractLsb' (16 * k) 16) = channels[k]?.map (BitVec.setWidth 16) := by
  have hget := congrArg (fun l : List (BitVec 16) => l[k]?) h
  simpa [List.getElem?_range hk] using hget

/-- Settles O59, one kind of request at a time: its own cells by `cellOf_add`, the cells beside its range by `cellOf_outside`,
and the other kinds' cells by its function code. -/
theorem requestCellsCarryTheirData : Obligations.RequestCellsCarryTheirData := by
  refine ⟨?analog, ?flags, ?read⟩
  case analog =>
    rintro cfg channels ⟨_, _, _, wdata⟩ a - ⟨rfl, rfl, rfl, hdata⟩
    rw [registerWritten_eq_cellOf]
    refine ⟨?_, fun ha => cellOf_outside ha, coilWritten_of_fc_ne (by simp) a, fun d => coilRead_of_fc_ne (by simp) d a⟩
    rintro k rfl hk
    rw [← hdata.extractLsb' hk]
    exact cellOf_add rfl hk
  case flags =>
    rintro base n coils ⟨_, _, _, wdata⟩ a hn ⟨rfl, rfl, rfl, hdata⟩
    have hcnt : (BitVec.ofNat 5 n).toNat = n := Nat.mod_eq_of_lt (by omega)
    rw [coilWritten_eq_cellOf]
    refine ⟨?_, fun ha => cellOf_outside (by simpa only [hcnt] using ha), registerWritten_of_fc_ne (by simp) a,
      fun d => coilRead_of_fc_ne (by simp) d a⟩
    rintro k rfl hk
    rw [← hdata k]
    exact cellOf_add rfl (by simpa only [hcnt] using hk)
  case read =>
    rintro base n ⟨_, _, _, _⟩ rdata a hn ⟨rfl, rfl, rfl, -⟩
    have hcnt : (BitVec.ofNat 5 n).toNat = n := Nat.mod_eq_of_lt (by omega)
    rw [coilRead_eq_cellOf]
    refine ⟨?_, fun ha => cellOf_outside (by simpa only [hcnt] using ha), coilWritten_of_fc_ne (by simp) a,
      registerWritten_of_fc_ne (by simp) a⟩
    rintro k rfl hk
    exact cellOf_add rfl (by simpa only [hcnt] using hk)

/-- What the oracle holds after one whole exchange: the response answers the request just before it, whatever stood
outstanding. -/
theorem coilView_see_req_rsp (a : Nat) (v : CoilView) (r : Request) (w : RspWord) :
    (v.see a (.req r)).see a (.rsp w)
      = { outstanding := none, value := if w.ok then (coilWritten r a).getD v.value else v.value } := rfl

/-- Settles O60: the fold over the longer history sees the exchange last. -/
theorem oracleAnswersTheLastWrite : Obligations.OracleAnswersTheLastWrite := by
  intro initial history r w a
  rw [oracleCoil, List.foldl_append]
  exact congrArg CoilView.value (coilView_see_req_rsp a _ r w)

/-! ### A call that holds -/

section
variable {s : State} (hpend : s.pend = true) (hrsp : s.rspIn = none)
include hpend hrsp

theorem plcCall_hold (op : GatewayOp) : plcCall op s = .next (.waiting s) := by
  simp [plcCall, hpend, hrsp]

theorem runOperation_hold (op : GatewayOp) (value : Config → BitVec 16 → OpResult) : runOperation op value s = .next s := by
  rw [runOperation, plcCall_hold hpend hrsp]

theorem runPlcState_hold (op : GatewayOp) (onOk : BitVec 16 → State → Host.Outcome State Fault Refusal) :
    runPlcState op onOk s = .next s := by
  rw [runPlcState, plcCall_hold hpend hrsp]

end

/-- Settles O16: every operation and every PLC state is a call that holds. -/
theorem callsHoldForTheirResponse : Obligations.CallsHoldForTheirResponse := by
  intro s hpend hrsp
  have hop := runOperation_hold hpend hrsp
  have hstate := runPlcState_hold hpend hrsp
  have hwrite := fun op => hop op fun _ _ => .done
  exact ⟨hwrite .writeAnalog, hwrite .writeInputFlags, hwrite .writeOutputFlags, hwrite .writeOutputFlags2,
    hop .readOverrideFlag fun _ d => .flag (overrideOf d), hop .readActuatorCoils fun cfg d => .coils (actuatorsOf cfg d),
    hstate .writeAnalog _, hstate .readOverrideFlag _,
    hstate .writeInputFlags _, hstate .writeOutputFlags _, hstate .writeOutputFlags2 _, hstate .readActuatorCoils _⟩

/-! ### The receive agent -/

/-- RX takes bytes exactly while the run has not ended (20_memory.md R63). -/
theorem rxOpen_eq_false_iff (s : State) : rxOpen s = false ↔ RunEnded s := by
  simp [rxOpen, RunEnded, or_iff_not_imp_left]

/-- A delivered byte takes its turn outside the reserved code. -/
theorem step_rx {s : State} {b : Byte} {rest : List Stimulus} (hlegal : cfgLegal s.cfg = true) (hs : s.sched = .rx b :: rest)
    (hst : s.st ≠ .reserved) : step s = .next (rxByte b { s with sched := rest }) := by
  rw [step_of_legal hlegal, turn_cons hs hst]; rfl

/-- Settles O30: the three cases of the receive agent exclude each other. -/
theorem receiveAgentBuffersOrDrops : Obligations.ReceiveAgentBuffersOrDrops := by
  intro s b rest hlegal hs hst
  rw [step_rx hlegal hs hst]
  have hended : rxOpen { s with sched := rest } = false ↔ RunEnded s := rxOpen_eq_false_iff _
  rcases rxByte_cases b { s with sched := rest } with ⟨hopen, ht⟩ | ⟨hopen, hroom, ht⟩ | ⟨hopen, hfull, ht⟩ <;> rw [ht]
  · have hend : RunEnded s := hended.1 hopen
    exact ⟨fun _ => rfl, fun hrun => absurd hend hrun, fun hrun => absurd hend hrun⟩
  · have hrun : ¬RunEnded s := fun h => by simp [hended.2 h] at hopen
    exact ⟨fun hend => absurd hend hrun, fun _ _ => rfl, fun _ hfull => absurd hroom (Nat.not_lt.2 hfull)⟩
  · have hrun : ¬RunEnded s := fun h => by simp [hended.2 h] at hopen
    exact ⟨fun hend => absurd hend hrun, fun _ hroom => absurd hroom (Nat.not_lt.2 hfull), fun _ _ => rfl⟩

end Sys2Proof.Safety
end

section
/-! PROOFS. The statements of 30_encoding.md: the round trip between words and instructions on each port, the lead byte of a
reply, and the bytes of the persist record. -/

namespace Sys2Proof.Encoding

open Sys2Proof.Machine Sys2Proof.Safety

/-! ### The fields of a concatenation

A word is written in 30_encoding.md as its fields side by side, which the model reads back with `extractLsb'`. -/

section
variable {v w : Nat}

theorem extractLsb'_append_low (x : BitVec v) (y : BitVec w) : (x ++ y).extractLsb' 0 w = y := by
  rw [BitVec.extractLsb'_append_eq_of_add_le (by omega), BitVec.extractLsb'_eq_self]

theorem extractLsb'_append_high (x : BitVec v) (y : BitVec w) : (x ++ y).extractLsb' w v = x := by
  rw [BitVec.extractLsb'_append_eq_of_le (Nat.le_refl w), Nat.sub_self, BitVec.extractLsb'_eq_self]

theorem append_inj_iff {x x' : BitVec v} {y y' : BitVec w} : x ++ y = x' ++ y' ↔ x = x' ∧ y = y' := by
  constructor
  · intro h
    have hhigh := congrArg (BitVec.extractLsb' w v) h
    have hlow := congrArg (BitVec.extractLsb' 0 w) h
    rw [extractLsb'_append_high, extractLsb'_append_high] at hhigh
    rw [extractLsb'_append_low, extractLsb'_append_low] at hlow
    exact ⟨hhigh, hlow⟩
  · rintro ⟨rfl, rfl⟩; rfl

end

/-! ### The receive stream (30_encoding.md R91 to R93) -/

@[simp] theorem flag2Byte_extractLsb'_high (r : BitVec 2) (o : BitVec 6) : (flag2Byte r o).extractLsb' 6 2 = r :=
  extractLsb'_append_high r o

@[simp] theorem flag2Byte_extractLsb'_low (r : BitVec 2) (o : BitVec 6) : (flag2Byte r o).extractLsb' 0 6 = o :=
  extractLsb'_append_low r o

/-- Reading frame byte 8 drops none of its bits. -/
@[simp] theorem flag2Byte_extractLsb' (x : Byte) : flag2Byte (x.extractLsb' 6 2) (x.extractLsb' 0 6) = x := by
  rw [flag2Byte, BitVec.extractLsb'_append_extractLsb'_eq_extractLsb' (show 6 = 0 + 6 from rfl), BitVec.extractLsb'_eq_self]

theorem encode_of_decodeGroup (cfg : Config) {bs : List Byte} {i : Instr} (h : decodeGroup bs = .ok i) :
    encode cfg i = .rxGroup bs := by
  unfold decodeGroup at h
  split at h
  · split_ifs at h with hstart
    obtain rfl := Except.ok.inj h
    simp [encode, hstart]
  · cases h

/-- Settles O4: the group matches the ten-byte format, and both decoders look at byte 0 first. -/
theorem wrongStartByteIsIllegal : Obligations.WrongStartByteIsIllegal := by
  intro cfg afterInflags b rest hb hlen
  constructor
  · match rest, hlen with
    | [_, _, _, _, _, _, _, _, _], _ => exact if_neg hb
  · have hten : (b :: rest).length = 10 := by rw [List.length_cons, hlen]
    rcases codecDecode_cases (b :: rest) with ⟨hne, -⟩ | ⟨-, -, herr⟩ | ⟨-, hstart, -⟩ | ⟨-, hstart, -⟩
    · exact absurd hten hne
    · exact herr
    · exact absurd hstart hb
    · exact absurd hstart hb

/-! ### The transmit stream (R95 to R97) -/

theorem encode_of_decodeReply (cfg : Config) {bs : List Byte} {i : Instr} (h : decodeReply bs = .ok i) :
    encode cfg i = .txReply bs := by
  unfold decodeReply at h
  split at h
  · split_ifs at h with hlead
    obtain rfl := Except.ok.inj h
    rw [hlead, encode]
  · split_ifs at h with hlead
    obtain rfl := Except.ok.inj h
    rw [hlead, encode]
  · cases h

/-! ### The request headers (R98, R99) -/

/-- The instruction of a PLC port operation. -/
def instrOfOp : GatewayOp → Instr
  | .writeAnalog => .writeAnalog
  | .writeInputFlags => .writeInputFlags
  | .writeOutputFlags => .writeOutputFlags
  | .writeOutputFlags2 => .writeOutputFlags2
  | .readOverrideFlag => .readOverrideFlag
  | .readActuatorCoils => .readActuatorCoils

theorem encode_instrOfOp (cfg : Config) (op : GatewayOp) : encode cfg (instrOfOp op) = .plcHeader (opHeader cfg op) := by
  cases op <;> rfl

/-- Two headers are equal when their three fields are. -/
theorem opHeader_eq_iff (cfg : Config) (a b : GatewayOp) :
    opHeader cfg a = opHeader cfg b ↔ opFc a = opFc b ∧ opAddr cfg a = opAddr cfg b ∧ opCnt cfg a = opCnt cfg b := by
  rw [opHeader, opHeader, append_inj_iff, append_inj_iff, and_assoc]

theorem opHeader_ne_of_fc {cfg : Config} {a b : GatewayOp} (h : opFc a ≠ opFc b) : opHeader cfg a ≠ opHeader cfg b :=
  fun heq => h ((opHeader_eq_iff cfg a b).1 heq).1

theorem opHeader_ne_of_cnt {cfg : Config} {a b : GatewayOp} (h : opCnt cfg a ≠ opCnt cfg b) :
    opHeader cfg a ≠ opHeader cfg b :=
  fun heq => h ((opHeader_eq_iff cfg a b).1 heq).2.2

/-- The two 8-coil writes share a header exactly where their bases are configured equal. -/
theorem opHeader_flagWrites_eq_iff (cfg : Config) :
    opHeader cfg .writeOutputFlags = opHeader cfg .writeInputFlags ↔ cfg.inflagBase = cfg.outflagBase := by
  simp [opHeader_eq_iff, opFc, opAddr, opCnt, opCells, eq_comm]

/-- A legal actuator read never has the count of the override query. -/
theorem opCnt_reads_ne {cfg : Config} (h : cfgLegal cfg = true) :
    opCnt cfg .readActuatorCoils ≠ opCnt cfg .readOverrideFlag := by
  obtain ⟨-, -, -, -, -, hcount, -, -⟩ := (cfgLegal_iff cfg).1 h
  rcases hcount with hc | hc | hc <;> simp [opCnt, opCells, hc]

/-- In a legal configuration the header of an operation decodes to it, with the position asked for where the two 8-coil writes
share a header (R99). The three function codes set the kinds apart; within a kind the count does, but for those two writes. -/
theorem decodeHeader_opHeader {cfg : Config} {afterInflags : Bool} (hlegal : cfgLegal cfg = true) (op : GatewayOp)
    (hpos : cfg.inflagBase = cfg.outflagBase →
      (op = .writeInputFlags → afterInflags = false) ∧ (op = .writeOutputFlags → afterInflags = true)) :
    decodeHeader cfg afterInflags (opHeader cfg op) = .ok (instrOfOp op) := by
  unfold decodeHeader
  cases op with
  | writeAnalog => exact if_pos rfl
  | writeInputFlags =>
    have hfirst : ¬(afterInflags = true ∧ cfg.inflagBase = cfg.outflagBase) := fun ⟨hafter, hbase⟩ => by
      simp [(hpos hbase).1 rfl] at hafter
    rw [if_neg (opHeader_ne_of_fc (by decide)), if_pos ⟨rfl, hfirst⟩]; rfl
  | writeOutputFlags =>
    have hsecond : ¬(opHeader cfg .writeOutputFlags = opHeader cfg .writeInputFlags ∧
        ¬(afterInflags = true ∧ cfg.inflagBase = cfg.outflagBase)) := fun ⟨heq, hfirst⟩ =>
      have hbase := (opHeader_flagWrites_eq_iff cfg).1 heq
      hfirst ⟨(hpos hbase).2 rfl, hbase⟩
    rw [if_neg (opHeader_ne_of_fc (by decide)), if_neg hsecond, if_pos rfl]; rfl
  | writeOutputFlags2 =>
    have hcnt (op : GatewayOp) (h : opCnt cfg op = 8#5) : opHeader cfg .writeOutputFlags2 ≠ opHeader cfg op :=
      opHeader_ne_of_cnt (by rw [h]; exact (by decide : 6#5 ≠ 8#5))
    rw [if_neg (opHeader_ne_of_fc (by decide)), if_neg fun h => hcnt .writeInputFlags rfl h.1,
      if_neg (hcnt .writeOutputFlags rfl), if_pos rfl]; rfl
  | readOverrideFlag =>
    obtain ⟨coil, hcoil⟩ := overrideCoil_of_legal hlegal
    rw [if_neg (opHeader_ne_of_fc (by decide)), if_neg fun h => opHeader_ne_of_fc (by decide) h.1,
      if_neg (opHeader_ne_of_fc (by decide)), if_neg (opHeader_ne_of_fc (by decide)), if_pos ⟨by simp [hcoil], rfl⟩]; rfl
  | readActuatorCoils =>
    rw [if_neg (opHeader_ne_of_fc (by decide)), if_neg fun h => opHeader_ne_of_fc (by decide) h.1,
      if_neg (opHeader_ne_of_fc (by decide)), if_neg (opHeader_ne_of_fc (by decide)),
      if_neg fun h => opHeader_ne_of_cnt (opCnt_reads_ne hlegal) h.2, if_pos rfl]; rfl

/-- A header that decodes is the header of the operation it decodes to. -/
theorem opHeader_of_decodeHeader {cfg : Config} {afterInflags : Bool} {h : BitVec 29} {i : Instr}
    (hd : decodeHeader cfg afterInflags h = .ok i) : ∃ op, instrOfOp op = i ∧ opHeader cfg op = h := by
  unfold decodeHeader at hd
  split_ifs at hd with h0 h1 h2 h3 h4 h5
  · exact ⟨.writeAnalog, Except.ok.inj hd, h0.symm⟩
  · exact ⟨.writeInputFlags, Except.ok.inj hd, h1.1.symm⟩
  · exact ⟨.writeOutputFlags, Except.ok.inj hd, h2.symm⟩
  · exact ⟨.writeOutputFlags2, Except.ok.inj hd, h3.symm⟩
  · exact ⟨.readOverrideFlag, Except.ok.inj hd, h4.2.symm⟩
  · exact ⟨.readActuatorCoils, Except.ok.inj hd, h5.symm⟩

/-! ### The state codes (R100) -/

/-- The states, in the order of their codes. -/
def allStates : List St :=
  [.init, .await, .decode, .wrAnalog, .rdOverride, .wrInflags, .wrOutflags, .wrOutflags2, .rdActuators, .sendReply, .persist,
    .backoff, .teardown, .halted, .failed, .reserved]

/-- Every 4-bit code is a state's. -/
theorem exists_stCode (c : BitVec 4) : ∃ st, stCode st = c := by
  have hall : c ∈ allStates.map stCode := by revert c; decide
  obtain ⟨st, -, hst⟩ := List.mem_map.1 hall
  exact ⟨st, hst⟩

theorem encode_decodeState (cfg : Config) (c : BitVec 4) : encode cfg (decodeState c) = .stateCode c := by
  obtain ⟨st, rfl⟩ := exists_stCode c
  rw [decodeState_stCode, encode_instrOfSt]

/-! ### The log words (R101, R102) -/

section
variable (aux1 aux0 : Byte) (cause : BitVec 2) (op code : BitVec 4)

@[simp] theorem logWordOf_code : (logWordOf aux1 aux0 cause op code).extractLsb' 0 4 = code :=
  extractLsb'_append_low _ code

@[simp] theorem logWordOf_op : (logWordOf aux1 aux0 cause op code).extractLsb' 4 4 = op := by
  rw [logWordOf, BitVec.extractLsb'_append_eq_of_le (by decide)]
  exact extractLsb'_append_low _ op

@[simp] theorem logWordOf_cause : (logWordOf aux1 aux0 cause op code).extractLsb' 8 2 = cause := by
  rw [logWordOf, BitVec.extractLsb'_append_eq_of_le (by decide), BitVec.extractLsb'_append_eq_of_le (by decide)]
  exact extractLsb'_append_low _ cause

@[simp] theorem logWordOf_aux0 : (logWordOf aux1 aux0 cause op code).extractLsb' 16 8 = aux0 := by
  rw [logWordOf, BitVec.extractLsb'_append_eq_of_le (by decide), BitVec.extractLsb'_append_eq_of_le (by decide),
    BitVec.extractLsb'_append_eq_of_le (by decide), BitVec.extractLsb'_append_eq_of_le (by decide)]
  exact extractLsb'_append_low aux1 aux0

@[simp] theorem logWordOf_aux1 : (logWordOf aux1 aux0 cause op code).extractLsb' 24 8 = aux1 := by
  rw [logWordOf, BitVec.extractLsb'_append_eq_of_le (by decide), BitVec.extractLsb'_append_eq_of_le (by decide),
    BitVec.extractLsb'_append_eq_of_le (by decide), BitVec.extractLsb'_append_eq_of_le (by decide)]
  exact extractLsb'_append_high aux1 aux0

end

@[simp] theorem startupAux_getElem_zero (ser plc : Bool) : (startupAux ser plc)[0] = ser := by
  cases ser <;> cases plc <;> rfl

@[simp] theorem startupAux_getElem_one (ser plc : Bool) : (startupAux ser plc)[1] = plc := by
  cases ser <;> cases plc <;> rfl

@[simp] theorem opOfCode_opCode (op : GatewayOp) : opOfCode (opCode op) = some op := by
  cases op <;> rfl

theorem opCode_of_opOfCode {c : BitVec 4} {op : GatewayOp} (h : opOfCode c = some op) : opCode op = c := by
  have hall : ∀ c : BitVec 4, ∀ op ∈ opOfCode c, opCode op = c := by decide
  exact hall c op h

@[simp] theorem causeOfCode_causeCode (cause : Cause) : causeOfCode (causeCode cause) = cause := by
  cases cause <;> rfl

@[simp] theorem causeCode_causeOfCode (c : BitVec 2) : causeCode (causeOfCode c) = c := by
  revert c; decide

/-- Each arm of `decodeLog` answers an instruction only for one word, so it is enough that this is the instruction's word. -/
theorem encode_of_checkedWord {cfg : Config} {w expected : BitVec 32} {i j : Instr} {r : Reject}
    (h : (if w = expected then .ok j else .error r : Except Reject Instr) = .ok i)
    (hexpected : encode cfg j = .logWord expected) : encode cfg i = .logWord w := by
  split_ifs at h with hw
  obtain rfl := Except.ok.inj h
  rw [hexpected, hw]

theorem encode_of_decodeLog (cfg : Config) {w : BitVec 32} {i : Instr} (h : decodeLog w = .ok i) :
    encode cfg i = .logWord w := by
  simp only [decodeLog] at h
  split at h
  case isTrue hcode => exact encode_of_checkedWord h (by rw [hcode]; rfl)
  split at h
  case isTrue hcode => exact encode_of_checkedWord h (by rw [hcode]; rfl)
  split at h
  case isTrue hcode => exact encode_of_checkedWord h (by rw [hcode]; rfl)
  split at h
  case isTrue hcode =>
    split at h
    case h_1 op hop =>
      exact encode_of_checkedWord h (by rw [encode, causeCode_causeOfCode, opCode_of_opOfCode hop, hcode]; rfl)
    case h_2 => cases h
  split at h
  case isTrue hcode => exact encode_of_checkedWord h (by rw [hcode]; rfl)
  case isFalse => cases h

/-! ### Every port -/

/-- Settles O1, port by port: the state codes, replies and frames by reading the fields back, the headers by
`decodeHeader_opHeader`, the log words by their fields. -/
theorem decodeInvertsEncode : Obligations.DecodeInvertsEncode := by
  intro cfg afterInflags i hlegal hpos
  have hop (op : GatewayOp) (hi : i = instrOfOp op) : decode cfg afterInflags (encode cfg i) = .ok i := by
    subst hi
    rw [encode_instrOfOp]
    exact decodeHeader_opHeader hlegal op fun hbase =>
      ⟨fun h => (hpos hbase).1 (by rw [h]; rfl), fun h => (hpos hbase).2 (by rw [h]; rfl)⟩
  cases i with
  | frame l1 l2 t f p ifl ofl r o2 k => simp [encode, decode, decodeGroup]
  | ack | ovr f g => rfl
  | writeAnalog => exact hop .writeAnalog rfl
  | writeInputFlags => exact hop .writeInputFlags rfl
  | writeOutputFlags => exact hop .writeOutputFlags rfl
  | writeOutputFlags2 => exact hop .writeOutputFlags2 rfl
  | readOverrideFlag => exact hop .readOverrideFlag rfl
  | readActuatorCoils => exact hop .readActuatorCoils rfl
  | stInit | stAwait | stDecode | stWrAnalog | stRdOverride | stWrInflags | stWrOutflags | stWrOutflags2 | stRdActuators
  | stSendReply | stPersist | stBackoff | stTeardown | stHalted | stFailed | stReserved => rfl
  | logBadLength _ | logBadStartByte _ | logChecksumMismatch _ _ | logGatewayError _ _ | logStartupFailure _ _ =>
    simp [encode, decode, decodeLog]

/-- Settles O2, one port at a time. -/
theorem decodedWordIsTheEncodedOne : Obligations.DecodedWordIsTheEncodedOne := by
  intro cfg afterInflags w i h
  cases w with
  | rxGroup bs => exact encode_of_decodeGroup cfg h
  | txReply bs => exact encode_of_decodeReply cfg h
  | plcHeader hd =>
    obtain ⟨op, rfl, rfl⟩ := opHeader_of_decodeHeader h
    exact encode_instrOfOp cfg op
  | stateCode c =>
    obtain rfl := Except.ok.inj h
    exact encode_decodeState cfg c
  | logWord w => exact encode_of_decodeLog cfg h

/-- Settles O3: each word is closed and the decoder computes. -/
theorem spelledOutWordsDecode : Obligations.SpelledOutWordsDecode := by
  unfold Obligations.SpelledOutWordsDecode
  decide

/-! ### The lead byte of a reply (R97) -/

theorem tx_notMem_of_coreAdds {s : State} {es : List Event} (h : CoreAdds s es) (b : Byte) : Event.tx b ∉ es := by
  cases h <;> simp

/-- CORE's turn transmits nothing: a byte goes out only when it is accepted (42_bridge_loop.md R220). -/
theorem exec_tx_notMem {s t : State} {es : List Event} (h : exec (instrOfSt s.st) s = .next t) (hadds : Adds s t es) (b : Byte) :
    Event.tx b ∉ es := by
  obtain ⟨es', hcore, hadds'⟩ := coreAddsTo_exec h
  rw [hadds.unique hadds']
  exact tx_notMem_of_coreAdds hcore b

/-- A response adds itself and what its completion part adds: no transmitted byte. -/
theorem plcRespond_tx_notMem {r : RspWord} {s t : State} {es : List Event} (h : plcRespond r s = .next t) (hadds : Adds s t es)
    (b : Byte) : Event.tx b ∉ es := by
  rcases plcRespond_next h with ⟨-, hexec⟩ | ⟨-, rfl⟩
  · obtain ⟨es', hcore, hadds'⟩ := coreAddsTo_exec (s := emit (.rsp r) { s with rspIn := some r }) hexec
    have hall : Adds s t (.rsp r :: es') := by rw [Adds, hadds', emit_events, List.append_assoc]; rfl
    rw [hadds.unique hall]
    simpa using tx_notMem_of_coreAdds hcore b
  · rw [hadds.unique (adds_nil rfl)]
    exact List.not_mem_nil

/-- A stimulus that transmits a byte is the acceptance of the byte offered. -/
theorem offered_of_stimulate_tx {e : Stimulus} {s t : State} {es : List Event} {b : Byte} (h : stimulate e s = .next t)
    (hadds : Adds s t es) (hb : Event.tx b ∈ es) : txEnabled s = true ∧ (txReg s s.txi).2 = some b := by
  have absent {es' : List Event} (hadds' : Adds s t es') (hnot : Event.tx b ∉ es') :
      txEnabled s = true ∧ (txReg s s.txi).2 = some b := absurd (hadds.unique hadds' ▸ hb) hnot
  cases e with
  | core =>
    rw [stimulate, runCore_eq_exec] at h
    exact absent hadds (exec_tx_notMem h hadds b)
  | rsp r => exact absent hadds (plcRespond_tx_notMem h hadds b)
  | accept =>
    rcases txAccept_next h with ⟨b', hen, hreg, rfl⟩ | ⟨-, rfl⟩
    · have hes : es = [.tx b'] := hadds.unique rfl
      obtain rfl : b = b' := by simpa [hes] using hb
      exact ⟨hen, hreg⟩
    · exact absent (adds_nil rfl) List.not_mem_nil
  | rx b' =>
    obtain rfl := Host.Outcome.next.inj h
    rcases rxByte_cases b' s with ⟨-, ht⟩ | ⟨-, -, ht⟩ | ⟨-, -, ht⟩
    · exact absent (es' := []) (adds_nil (by rw [ht])) (by simp)
    · exact absent (es' := [.rx b']) (by rw [ht]; rfl) (by simp)
    · exact absent (es' := [.rxdrop b']) (by rw [ht]; rfl) (by simp)
  | shutdown =>
    obtain rfl := Host.Outcome.next.inj h
    exact absent (es' := [.shutdown]) rfl (by simp)
  | reset =>
    obtain rfl := Host.Outcome.next.inj h
    exact absent (es' := [.reset]) rfl (by simp)
  | link | clock =>
    obtain rfl := Host.Outcome.next.inj h
    exact absent (adds_nil rfl) List.not_mem_nil

/-- Whoever takes it, a step that transmits a byte takes the one offered in SEND_REPLY. -/
theorem offered_of_step_tx {s t : State} {es : List Event} {b : Byte} (h : step s = .next t) (hadds : Adds s t es)
    (hb : Event.tx b ∈ es) : txEnabled s = true ∧ (txReg s s.txi).2 = some b := by
  obtain ⟨-, ⟨-, hexec⟩ | ⟨-, hexec⟩ | ⟨e, rest, -, -, hstim⟩⟩ := step_next h
  · exact absurd hb (exec_tx_notMem hexec hadds b)
  · exact absurd hb (exec_tx_notMem hexec hadds b)
  · exact offered_of_stimulate_tx (s := { s with sched := rest }) hstim hadds hb

/-- Settles O52: the byte offered first is `txb[0]`, and the invariant says which reply SEND_REPLY holds. -/
theorem leadByteTellsTheReplyLength : Obligations.LeadByteTellsTheReplyLength := by
  intro s t es b hinv h hadds hb htxi
  obtain ⟨hen, hreg⟩ := offered_of_step_tx h hadds hb
  obtain ⟨hst, -⟩ : s.st = .sendReply ∧ s.txi < s.txn := by simpa [txEnabled] using hen
  have hlead : s.txb0 = some b := by simpa [htxi, txReg] using hreg
  have hphase := hinv.phase
  simp only [PhaseOk, hst] at hphase
  obtain ⟨-, hreply, -⟩ := hphase
  rcases hreply with ⟨⟨hovr, -⟩, -, h0, hn⟩ | ⟨⟨hovr, -⟩, a, -, -, h0, -, -, hn⟩
  · exact .inl ⟨Option.some.inj (hlead.symm.trans h0), hn, hovr⟩
  · exact .inr ⟨Option.some.inj (hlead.symm.trans h0), hn, hovr⟩

/-! ### The persist record (R103) -/

/-- The low `n` bytes of a word, least significant first. -/
def leBytes {w : Nat} (n : Nat) (x : BitVec w) : List Byte := (List.range n).map fun j => x.extractLsb' (8 * j) 8

theorem recordBytes_eq_leBytes (rec : BitVec 152) : recordBytes rec = leBytes 19 rec := rfl

/-- The bytes of the low part come first, when that is whole bytes. -/
theorem leBytes_append {v w m : Nat} (hv : v = 8 * m) (n : Nat) (x : BitVec w) (y : BitVec v) :
    leBytes (n + m) (x ++ y) = leBytes m y ++ leBytes n x := by
  rw [leBytes, Nat.add_comm n m, List.range_add, List.map_append, List.map_map]
  congr 1 <;> refine List.map_congr_left fun j hj => ?_
  · have hjm : j < m := List.mem_range.1 hj
    exact BitVec.extractLsb'_append_eq_of_add_le (by omega)
  · rw [Function.comp_apply, BitVec.extractLsb'_append_eq_of_le (by omega), show 8 * (m + j) - v = 8 * j by omega]

theorem leBytes_append_byte {w : Nat} (n : Nat) (x : BitVec w) (b : Byte) : leBytes (n + 1) (x ++ b) = b :: leBytes n x := by
  have hone : leBytes 1 b = [b] := congrArg (fun c : Byte => [c]) BitVec.extractLsb'_eq_self
  rw [leBytes_append (m := 1) rfl, hone]; rfl

/-- A 16-bit field is its two bytes. -/
theorem leBytes_append_sixteen {w : Nat} (n : Nat) (x : BitVec w) (a : BitVec 16) :
    leBytes (n + 2) (x ++ a) = a.extractLsb' 0 8 :: a.extractLsb' 8 8 :: leBytes n x :=
  leBytes_append (m := 2) rfl n x a

/-- The nineteen bytes of a record, byte 0 first. -/
theorem recordBytes_persistRecord (l1 l2 t f p i o : Byte) (o2 : BitVec 6) (ovr : Bool) (applied : BitVec 16)
    (ts : BitVec 64) : recordBytes (persistRecord l1 l2 t f p i o o2 ovr applied ts) =
      [l1, l2, t, f, p, i, o, o2.setWidth 8, 0#7 ++ BitVec.ofBool ovr, applied.extractLsb' 0 8, applied.extractLsb' 8 8]
        ++ leBytes 8 ts := by
  rw [recordBytes_eq_leBytes, persistRecord]
  repeat rw [leBytes_append_byte]
  rw [leBytes_append_sixteen]; rfl

/-- PERSIST emits the record of the cycle and enters AWAIT (42_bridge_loop.md R211). -/
theorem exec_stPersist_of_record {s : State} {rec : BitVec 152} (h : recordOf s = .next rec) :
    exec .stPersist s = .next (backInAwait { s with events := s.events ++ [.pst rec] }) := by
  calc exec .stPersist s = execStPersist s := rfl
    _ = .next (enterAwait (persistEmit rec s)) := by rw [execStPersist, h]
    _ = .next (backInAwait { s with events := s.events ++ [.pst rec] }) := rfl

/-- Settles O25: the record each mode emits, and its bytes. -/
theorem persistEmitsTheNineteenBytes : Obligations.PersistEmitsTheNineteenBytes := by
  intro s l1 l2 t f p i o o2 hl1 hl2 ht hf hp hi ho ho2 clock
  refine ⟨fun hovr => ?_, fun a hovr hact => ?_⟩
  · refine ⟨persistRecord l1 l2 t f p i o o2 false (o2.setWidth 8 ++ o) s.wallclock, ?_, exec_stPersist_of_record ?_⟩
    · rw [recordBytes_persistRecord, extractLsb'_append_low, extractLsb'_append_high]; rfl
    · simp [recordOf, appliedOf, hl1, hl2, ht, hf, hp, hi, ho, ho2, hovr]
  · refine ⟨persistRecord l1 l2 t f p i o o2 true a s.wallclock, ?_, exec_stPersist_of_record ?_⟩
    · rw [recordBytes_persistRecord]; rfl
    · simp [recordOf, appliedOf, hl1, hl2, ht, hf, hp, hi, ho, ho2, hovr, hact]

end Sys2Proof.Encoding
end

section
/-! PROOFS. The statements of 40_codec.md: the fold, the first failure of `decode`, the padded read and the packed reply, and
the three serial frames run as instructions. -/

namespace Sys2Proof.Codec

open Sys2Proof.Machine Sys2Proof.Safety Sys2Proof.Encoding

/-! ### The fold (R130) -/

/-- Each byte folded in flips bit `i` exactly when it has the bit set. -/
theorem getLsbD_foldl_xor (bs : List Byte) (a : Byte) (i : Nat) :
    (bs.foldl (· ^^^ ·) a).getLsbD i = (a.getLsbD i ^^ decide (bs.countP (fun b => b.getLsbD i) % 2 = 1)) := by
  induction bs generalizing a with
  | nil => simp
  | cons b bs ih =>
    rw [List.foldl_cons, ih, BitVec.getLsbD_xor, List.countP_cons, Bool.xor_assoc]
    cases b.getLsbD i with
    | false => simp
    | true =>
      rcases Nat.mod_two_eq_zero_or_one (bs.countP fun b => b.getLsbD i) with hn | hn <;> simp [Nat.add_mod, hn]

theorem getLsbD_xorfold (bs : List Byte) (i : Nat) :
    (xorfold bs).getLsbD i = decide (bs.countP (fun b => b.getLsbD i) % 2 = 1) := by
  simpa [xorfold] using getLsbD_foldl_xor bs 0#8 i

/-- The parity of a bit counts bytes, so their order does not show. -/
theorem xorfold_perm {bs cs : List Byte} (h : bs.Perm cs) : xorfold bs = xorfold cs :=
  BitVec.eq_of_getLsbD_eq fun i _ => by rw [getLsbD_xorfold, getLsbD_xorfold, h.countP_eq]

/-- Settles O35: the fold is the bitwise parity, which gives the other two. -/
theorem foldIsTheBitwiseParity : Obligations.FoldIsTheBitwiseParity :=
  ⟨rfl, getLsbD_xorfold, fun _ _ => xorfold_perm⟩

/-! ### The first failure (R133 to R135) -/

section
variable (bs : List Byte)

theorem codecDecode_eq_badLength_iff (n : Nat) : codecDecode bs = .error (.badLength n) ↔ bs.length = n ∧ n ≠ 10 := by
  rcases codecDecode_cases bs with ⟨hlen, h⟩ | ⟨hlen, -, h⟩ | ⟨hlen, -, -, h⟩ | ⟨hlen, -, -, f, h⟩ <;> rw [h]
  · simp only [Except.error.injEq, DecodeError.badLength.injEq]
    exact ⟨fun hn => ⟨hn, hn ▸ hlen⟩, fun ⟨hn, _⟩ => hn⟩
  all_goals
    rw [hlen]
    exact ⟨fun herr => by simp at herr, fun ⟨hn, hne⟩ => absurd hn.symm hne⟩

theorem codecDecode_eq_badStartByte_iff (b : Byte) :
    codecDecode bs = .error (.badStartByte b) ↔ bs.length = 10 ∧ byteAt bs 0 = b ∧ b ≠ 0xAA#8 := by
  rcases codecDecode_cases bs with ⟨hlen, h⟩ | ⟨hlen, hstart, h⟩ | ⟨-, hstart, -, h⟩ | ⟨-, hstart, -, f, h⟩ <;> rw [h]
  · simp [hlen]
  · simp only [Except.error.injEq, DecodeError.badStartByte.injEq]
    exact ⟨fun hb => ⟨hlen, hb, hb ▸ hstart⟩, fun ⟨_, hb, _⟩ => hb⟩
  all_goals
    rw [hstart]
    exact ⟨fun herr => by simp at herr, fun ⟨_, hb, hne⟩ => absurd hb.symm hne⟩

theorem codecDecode_eq_checksumMismatch_iff (c r : Byte) :
    codecDecode bs = .error (.checksumMismatch c r) ↔
      bs.length = 10 ∧ byteAt bs 0 = 0xAA#8 ∧ c = xorfold (bs.take 9) ∧ r = byteAt bs 9 ∧ c ≠ r := by
  rcases codecDecode_cases bs with ⟨hlen, h⟩ | ⟨-, hstart, h⟩ | ⟨hlen, hstart, hsum, h⟩ | ⟨-, -, hsum, f, h⟩ <;> rw [h]
  · simp [hlen]
  · simp [hstart]
  · constructor
    · rintro ⟨⟩
      exact ⟨hlen, hstart, rfl, rfl, hsum⟩
    · rintro ⟨-, -, rfl, rfl, -⟩
      rfl
  · rw [hsum]
    exact ⟨fun herr => by simp at herr, fun ⟨_, _, hc, hr, hne⟩ => absurd (hc.trans hr.symm) hne⟩

/-- A group that passes the three checks is read field by field (R132). -/
theorem codecDecode_eq_ok (hlen : bs.length = 10) (hstart : byteAt bs 0 = 0xAA#8)
    (hsum : xorfold (bs.take 9) = byteAt bs 9) : codecDecode bs = .ok
      { level1 := byteAt bs 1, level2 := byteAt bs 2, tds := byteAt bs 3, flow := byteAt bs 4, pressure := byteAt bs 5
        inputFlags := unpackInputFlags (byteAt bs 6)
        outputFlags := unpackOutputFlags (byteAt bs 7)
        outputFlags2 := unpackOutputFlags2 (lowSix (byteAt bs 8)) } := by
  simp [codecDecode, hlen, hstart, hsum]

end

/-- DECODE of the invariant pops ten whole bytes (42_bridge_loop.md R203). -/
theorem rxPop_length_of_decode {s : State} (h : Inv s) (hst : s.st = .decode) : (rxPop 10 s).1.length = 10 := by
  have hphase := h.phase
  simp only [PhaseOk, hst] at hphase
  obtain ⟨-, hten⟩ := hphase
  rw [rxPop_fst, List.length_take_of_le hten]

/-- Settles O41: one equivalence per error; a group of ten bytes has no BadLength. -/
theorem decodeReportsTheFirstFailure : Obligations.DecodeReportsTheFirstFailure := by
  refine ⟨fun bs => ⟨codecDecode_eq_badLength_iff bs, codecDecode_eq_badStartByte_iff bs,
    codecDecode_eq_checksumMismatch_iff bs⟩, fun s n hinv hst herr => ?_⟩
  obtain ⟨hlen, hne⟩ := (codecDecode_eq_badLength_iff _ n).1 herr
  exact hne (hlen.symm.trans (rxPop_length_of_decode hinv hst))

/-! ### Padding and packing (R140 to R142) -/

/-- Settles O43: the reading of `pad16` bit by bit that the invariant of the override reply rests on. -/
theorem padKeepsOnlyTheCoilsRead : Obligations.PadKeepsOnlyTheCoilsRead :=
  pad16_getLsbD

/-- Bit `i` of the packed byte is boolean `i` (R140). -/
theorem pack8_getLsbD (flags : List Bool) {i : Nat} (hi : i < 8) : (pack8 flags).getLsbD i = flags.getD i false := by
  -- The width as the seven concatenations give it, so that `getLsbD_append` can split it.
  change BitVec.getLsbD (w := 1 + 1 + 1 + 1 + 1 + 1 + 1 + 1) (_ ++ _) i = _
  simp only [BitVec.getLsbD_append]
  interval_cases i <;> simp

/-- A boolean that is there is the bit of the byte it is packed into. -/
theorem getElem?_eq_pack8_getLsbD {flags : List Bool} {i : Nat} (hi : i < 8) (hlen : i < flags.length) :
    flags[i]? = some ((pack8 flags).getLsbD i) := by
  rw [pack8_getLsbD flags hi, List.getD_eq_getElem _ _ hlen, List.getElem?_eq_getElem hlen]

/-- Settles O42: the two bytes pack the first eight booleans and the last eight. -/
theorem overrideReplyPacksSixteenCoils : Obligations.OverrideReplyPacksSixteenCoils := by
  refine ⟨fun flags hlen => ⟨_, _, encodeOverride_of_length hlen, fun i hi => ?_⟩,
    fun flags hlen => if_pos hlen, encodeOverride_coilsOf⟩
  constructor
  · rw [← List.getElem?_take_of_lt hi]
    exact getElem?_eq_pack8_getLsbD hi (by rw [List.length_take]; omega)
  · rw [← List.getElem?_drop]
    exact getElem?_eq_pack8_getLsbD hi (by rw [List.length_drop]; omega)

/-! ### The serial frames as instructions (R132, R142, R143) -/

/-- The fields of a log word, read back (30_encoding.md R101). -/
theorem logFields_logWordOf (aux1 aux0 : Byte) (cause : BitVec 2) (op code : BitVec 4) :
    logFields (logWordOf aux1 aux0 cause op code) = (code, op, cause, 0#6, aux0, aux1) := by
  have hzero : (logWordOf aux1 aux0 cause op code).extractLsb' 10 6 = 0#6 := by
    rw [logWordOf, BitVec.extractLsb'_append_eq_of_le (by decide), BitVec.extractLsb'_append_eq_of_le (by decide),
      BitVec.extractLsb'_append_eq_of_le (by decide)]
    exact extractLsb'_append_low _ 0#6
  simp only [logFields, logWordOf_code, logWordOf_op, logWordOf_cause, hzero, logWordOf_aux0, logWordOf_aux1]

/-- A group that decodes loads the SensorFrame registers with its bytes (42_bridge_loop.md R203). -/
theorem decodeBytes_of_good {bs : List Byte} (hlen : bs.length = 10) (hstart : byteAt bs 0 = 0xAA#8)
    (hsum : xorfold (bs.take 9) = byteAt bs 9) (s : State) : decodeBytes bs s =
      { s with
        frm := some bs, level1 := some (byteAt bs 1), level2 := some (byteAt bs 2), tds := some (byteAt bs 3)
        flow := some (byteAt bs 4), pressure := some (byteAt bs 5), inF := some (byteAt bs 6), outF := some (byteAt bs 7)
        outF2 := some (lowSix (byteAt bs 8)), fv := true, st := .wrAnalog } := by
  rw [decodeBytes, codecDecode_eq_ok bs hlen hstart hsum]

/-- A group that fails is logged and dropped (42_bridge_loop.md R203). -/
theorem decodeBytes_of_error {bs : List Byte} {e : DecodeError} (h : codecDecode bs = .error e) (s : State) :
    decodeBytes bs s = backInAwait { s with events := s.events ++ [.log (errorWord (.framing e))] } := by
  rw [decodeBytes, h]; rfl

/-- Settles O10: the frame's ten bytes pass the checks before the sum, and the sum decides. -/
theorem frameDecodesOrIsDropped : Obligations.FrameDecodesOrIsDropped := by
  intro l1 l2 t f p i o r o2 k s b8 fold
  have hfold : xorfold ([0xAA#8, l1, l2, t, f, p, i, o, b8, k].take 9) = fold := by simp [xorfold, fold]
  have hexec : exec (.frame l1 l2 t f p i o r o2 k) s = .next (decodeBytes [0xAA#8, l1, l2, t, f, p, i, o, b8, k] s) := rfl
  rw [hexec]
  constructor
  · intro hsum
    have hlow : lowSix b8 = o2 := flag2Byte_extractLsb'_low r o2
    rw [decodeBytes_of_good rfl rfl (hfold.trans hsum)]
    simp only [byteAt, List.getD_cons_succ, List.getD_cons_zero, hlow]
  · intro hsum
    have herr : codecDecode [0xAA#8, l1, l2, t, f, p, i, o, b8, k] = .error (.checksumMismatch fold k) :=
      (codecDecode_eq_checksumMismatch_iff _ fold k).2 ⟨rfl, rfl, hfold.symm, rfl, hsum⟩
    exact ⟨_, logFields_logWordOf k fold 0 0xF 0x3, by rw [decodeBytes_of_error herr]; rfl⟩

/-- Settles O11: each reply is loaded as it is packed. -/
theorem repliesFillTheTransmitBuffer : Obligations.RepliesFillTheTransmitBuffer := by
  intro s
  refine ⟨rfl, fun f g => ?_⟩
  calc exec (.ovr f g) s = execOvr f g s := rfl
    _ = .next (loadReply [0xBB#8, f, g] s) := by rw [execOvr, encodeOverride_unpack16]
    _ = _ := rfl

end Sys2Proof.Codec
end

section
/-! PROOFS. That the input flags change nothing but the data that carries them (40_codec.md R136): two states that differ only in
them take every turn together. Each operation of the block has one lemma that says so, and a step is put together from them. -/

namespace Sys2Proof.Safety

open Sys2Proof.Machine Sys2Proof.Encoding

/-- Whatever next state `o` answers, `o'` answers one that differs from it in the input flags only. -/
def Follows (o o' : Host.Outcome State Fault Refusal) : Prop :=
  ∀ t, o = .next t → ∃ t', o' = .next t' ∧ DifferInInF t t'

theorem Follows.next {t t' : State} (h : DifferInInF t t') : Follows (.next t) (.next t') := by
  rintro _ ⟨⟩
  exact ⟨t', rfl, h⟩

theorem Follows.fault (f : Fault) (o : Host.Outcome State Fault Refusal) : Follows (.fault f) o := fun _ h => by cases h

theorem Follows.refused (r : Refusal) (o : Host.Outcome State Fault Refusal) : Follows (.refused r) o := fun _ h => by cases h

section
variable {s s' : State}

/-! ### The state updates

`DifferInInF.exists_eq` writes the second state as the first with other input flags and another history, so that every other
register of the two is the same by computation. -/

theorem DifferInInF.exists_eq (h : DifferInInF s s') : ∃ (v : Option Byte) (es : List Event),
    s' = { s with inF := v, events := es } ∧ v.isSome = s.inF.isSome ∧ List.Forall₂ (EqualButInF s.cfg) s.events es :=
  ⟨_, _, h.same, h.held, h.history⟩

theorem differInInF_emit {e e' : Event} (h : DifferInInF s s') (he : EqualButInF s.cfg e e') :
    DifferInInF (emit e s) (emit e' s') := by
  obtain ⟨v, es, rfl, hv, hes⟩ := h.exists_eq
  exact ⟨rfl, hv, equalButInF_append hes he⟩

/-- An event that carries nothing of the input flags is added to both histories. -/
theorem differInInF_emit_same (h : DifferInInF s s') (e : Event) : DifferInInF (emit e s) (emit e s') :=
  differInInF_emit h (equalButInF_refl s.cfg e)

theorem differInInF_setSt (h : DifferInInF s s') (st : St) : DifferInInF { s with st := st } { s' with st := st } := by
  obtain ⟨v, es, rfl, hv, hes⟩ := h.exists_eq
  exact ⟨rfl, hv, hes⟩

theorem differInInF_setSched (h : DifferInInF s s') (sched : List Stimulus) :
    DifferInInF { s with sched := sched } { s' with sched := sched } := by
  obtain ⟨v, es, rfl, hv, hes⟩ := h.exists_eq
  exact ⟨rfl, hv, hes⟩

/-- Entering AWAIT clears the input flags of both (10_state.md R33). -/
theorem differInInF_enterAwait (h : DifferInInF s s') : DifferInInF (enterAwait s) (enterAwait s') := by
  obtain ⟨v, es, rfl, -, hes⟩ := h.exists_eq
  exact ⟨rfl, rfl, hes⟩

theorem differInInF_setPend (h : DifferInInF s s') : DifferInInF (setPend s) (setPend s') := by
  obtain ⟨v, es, rfl, hv, hes⟩ := h.exists_eq
  exact ⟨rfl, hv, hes⟩

theorem differInInF_clearPend (h : DifferInInF s s') : DifferInInF (clearPend s) (clearPend s') := by
  obtain ⟨v, es, rfl, hv, hes⟩ := h.exists_eq
  exact ⟨rfl, hv, hes⟩

theorem differInInF_setOvr (h : DifferInInF s s') (v : Bool) : DifferInInF (setOvr v s) (setOvr v s') := by
  obtain ⟨w, es, rfl, hw, hes⟩ := h.exists_eq
  exact ⟨rfl, hw, hes⟩

theorem differInInF_setAct (h : DifferInInF s s') (a : BitVec 16) :
    DifferInInF { s with act := some a } { s' with act := some a } := by
  obtain ⟨v, es, rfl, hv, hes⟩ := h.exists_eq
  exact ⟨rfl, hv, hes⟩

theorem differInInF_loadReply (h : DifferInInF s s') (bs : List Byte) : DifferInInF (loadReply bs s) (loadReply bs s') := by
  obtain ⟨v, es, rfl, hv, hes⟩ := h.exists_eq
  exact ⟨rfl, hv, hes⟩

theorem differInInF_takeError (h : DifferInInF s s') (e : BlockError) : DifferInInF (takeError e s) (takeError e s') := by
  have hlog := differInInF_emit_same h (.log (errorWord e))
  cases e with
  | framing d => exact differInInF_enterAwait hlog
  | gateway op c => exact differInInF_setSt hlog .backoff
  | startup ser plc => exact differInInF_setSt hlog .failed

/-- A popped group loads the same SensorFrame in both, or is dropped in both. -/
theorem differInInF_decodeBytes (h : DifferInInF s s') (bs : List Byte) :
    DifferInInF (decodeBytes bs s) (decodeBytes bs s') := by
  obtain ⟨v, es, rfl, hv, hes⟩ := h.exists_eq
  unfold decodeBytes
  cases codecDecode bs with
  | error e => exact differInInF_takeError ⟨rfl, hv, hes⟩ (.framing e)
  | ok f => exact ⟨rfl, rfl, hes⟩

theorem differInInF_rxByte (h : DifferInInF s s') (b : Byte) : DifferInInF (rxByte b s) (rxByte b s') := by
  obtain ⟨v, es, rfl, hv, hes⟩ := h.exists_eq
  have hcarry : rxOpen { s with inF := v, events := es } = rxOpen s := rfl
  unfold rxByte
  rw [hcarry]
  split_ifs
  · exact differInInF_emit_same ⟨rfl, hv, hes⟩ (.rx b)
  · exact differInInF_emit_same ⟨rfl, hv, hes⟩ (.rxdrop b)
  · exact h

theorem differInInF_resetBlock (h : DifferInInF s s') : DifferInInF (resetBlock s) (resetBlock s') := by
  obtain ⟨v, es, rfl, -, hes⟩ := h.exists_eq
  exact ⟨rfl, rfl, equalButInF_append hes (equalButInF_refl _ _)⟩

/-! ### The data that carries the flags -/

/-- The write of the input flags differs in its low eight bits; every other request is the same in both (41_gateway.md R171 to
R176). -/
theorem operandsOf_follows (h : DifferInInF s s') {op : GatewayOp} {rq : Request} (hrq : operandsOf op s = .next rq) :
    ∃ rq', operandsOf op s' = .next rq' ∧ EqualButInF s.cfg (.req rq) (.req rq') := by
  obtain ⟨v, es, rfl, hv, -⟩ := h.exists_eq
  cases op with
  | writeInputFlags =>
    obtain ⟨x, hx, hnext⟩ := readReg_next hrq
    obtain rfl := Host.Outcome.next.inj hnext
    obtain ⟨x', rfl⟩ : ∃ x', v = some x' := Option.isSome_iff_exists.1 (by rw [hv, hx]; rfl)
    refine ⟨_, rfl, .inr (.inl ⟨_, x'.setWidth 80, rfl, rfl, rfl, fun k hk => ?_, rfl, rfl⟩)⟩
    simp [requestOf, BitVec.getLsbD_of_ge _ k hk]
  | writeAnalog | writeOutputFlags | writeOutputFlags2 | readOverrideFlag | readActuatorCoils =>
    exact ⟨rq, hrq, equalButInF_refl _ _⟩

/-- Bit `k` of a record is a bit of its byte `k / 8` (30_encoding.md R103). -/
theorem getLsbD_eq_recordBytes (rec : BitVec 152) (k : Nat) :
    rec.getLsbD k = (byteAt (recordBytes rec) (k / 8)).getLsbD (k % 8) := by
  rcases Nat.lt_or_ge (k / 8) 19 with hk | hk
  · have hbyte : byteAt (recordBytes rec) (k / 8) = rec.extractLsb' (8 * (k / 8)) 8 := by
      simp [byteAt, recordBytes, hk]
    have hbit : k % 8 < 8 := Nat.mod_lt _ (by decide)
    rw [hbyte, BitVec.getLsbD_extractLsb', decide_eq_true hbit, Bool.true_and, Nat.div_add_mod]
  · have hbyte : byteAt (recordBytes rec) (k / 8) = 0 := by simp [byteAt, recordBytes, hk]
    rw [hbyte, BitVec.getLsbD_of_ge rec k (by omega)]
    exact BitVec.getLsbD_zero.symm

/-- Outside byte 5 a record does not depend on the input flags. -/
theorem persistRecord_getLsbD_of_ne_inF (l1 l2 t f p i i' o : Byte) (o2 : BitVec 6) (ovr : Bool) (applied : BitVec 16)
    (ts : BitVec 64) {k : Nat} (hk : k < 40 ∨ 48 ≤ k) :
    (persistRecord l1 l2 t f p i' o o2 ovr applied ts).getLsbD k
      = (persistRecord l1 l2 t f p i o o2 ovr applied ts).getLsbD k := by
  have hset : recordBytes (persistRecord l1 l2 t f p i' o o2 ovr applied ts)
      = (recordBytes (persistRecord l1 l2 t f p i o o2 ovr applied ts)).set 5 i' := by
    rw [recordBytes_persistRecord, recordBytes_persistRecord]; rfl
  have hne : 5 ≠ k / 8 := by omega
  rw [getLsbD_eq_recordBytes, getLsbD_eq_recordBytes _ k, hset, byteAt, byteAt, List.getD_eq_getElem?_getD,
    List.getD_eq_getElem?_getD, List.getElem?_set_ne hne]

/-- The two records differ in byte 5 alone. -/
theorem recordOf_follows (h : DifferInInF s s') {rec : BitVec 152} (hrec : recordOf s = .next rec) :
    ∃ rec', recordOf s' = .next rec' ∧ EqualButInF s.cfg (.pst rec) (.pst rec') := by
  obtain ⟨v, es, rfl, hv, -⟩ := h.exists_eq
  unfold recordOf at hrec
  obtain ⟨l1, hl1, hrec⟩ := readReg_next hrec
  obtain ⟨l2, hl2, hrec⟩ := readReg_next hrec
  obtain ⟨t, ht, hrec⟩ := readReg_next hrec
  obtain ⟨f, hf, hrec⟩ := readReg_next hrec
  obtain ⟨p, hp, hrec⟩ := readReg_next hrec
  obtain ⟨i, hi, hrec⟩ := readReg_next hrec
  obtain ⟨o, ho, hrec⟩ := readReg_next hrec
  obtain ⟨o2, ho2, hrec⟩ := readReg_next hrec
  obtain ⟨ovr, hovr, hrec⟩ := readReg_next hrec
  obtain ⟨i', rfl⟩ : ∃ i', v = some i' := Option.isSome_iff_exists.1 (by rw [hv, hi]; rfl)
  have hsame (applied : BitVec 16) := fun k (hk : k < 40 ∨ 48 ≤ k) =>
    persistRecord_getLsbD_of_ne_inF l1 l2 t f p i i' o o2 ovr applied s.wallclock hk
  cases ovr with
  | false =>
    obtain rfl := Host.Outcome.next.inj hrec
    exact ⟨_, by simp [recordOf, hl1, hl2, ht, hf, hp, ho, ho2, hovr], .inr (.inr ⟨_, _, hsame _, rfl, rfl⟩)⟩
  | true =>
    obtain ⟨a, ha, hrec⟩ := readReg_next hrec
    obtain rfl := Host.Outcome.next.inj hrec
    exact ⟨_, by simp [recordOf, hl1, hl2, ht, hf, hp, ho, ho2, hovr, ha], .inr (.inr ⟨_, _, hsame _, rfl, rfl⟩)⟩

/-! ### CORE's turn -/

/-- Both calls hold, both issue their request, or both consume the response; what follows a success is left to each state. -/
theorem runPlcState_follows {op : GatewayOp} {onOk : BitVec 16 → State → Host.Outcome State Fault Refusal}
    (hok : ∀ d {u u'}, DifferInInF u u' → Follows (onOk d u) (onOk d u')) (h : DifferInInF s s') :
    Follows (runPlcState op onOk s) (runPlcState op onOk s') := by
  intro t ht
  have hpend' : s'.pend = s.pend := by rw [h.same]
  have hrsp' : s'.rspIn = s.rspIn := by rw [h.same]
  rcases runPlcState_next ht with ⟨hpend, hrsp, rfl⟩ | ⟨rq, hpend, hrq, rfl⟩ | ⟨r, d, hpend, hrsp, hd, hnext⟩ |
    ⟨r, c, hpend, hrsp, hc, rfl⟩
  · exact ⟨s', runPlcState_hold (hpend'.trans hpend) (hrsp'.trans hrsp) op onOk, h⟩
  · obtain ⟨rq', hrq', hevent⟩ := operandsOf_follows h hrq
    exact ⟨_, by simp [runPlcState, plcCall, hpend', hpend, hrq'], differInInF_setPend (differInInF_emit h hevent)⟩
  · obtain ⟨t', ht', hdiff⟩ := hok d (differInInF_clearPend h) t hnext
    exact ⟨t', by simpa [runPlcState, plcCall, hpend', hpend, hrsp', hrsp, hd] using ht', hdiff⟩
  · exact ⟨_, by simp [runPlcState, plcCall, hpend', hpend, hrsp', hrsp, hc],
      differInInF_takeError (differInInF_clearPend h) _⟩

theorem execStInit_follows (h : DifferInInF s s') : Follows (execStInit s) (execStInit s') := by
  obtain ⟨v, es, rfl, -, -⟩ := h.exists_eq
  refine .next ?_
  dsimp only
  split
  · exact differInInF_enterAwait h
  · exact differInInF_takeError h _

theorem execStAwait_follows (h : DifferInInF s s') : Follows (execStAwait s) (execStAwait s') := by
  obtain ⟨v, es, rfl, -, -⟩ := h.exists_eq
  unfold execStAwait
  dsimp only
  split_ifs
  · exact .next (differInInF_setSt h .teardown)
  · exact .next (differInInF_setSt h .decode)
  · exact .next h

theorem execStDecode_follows (h : DifferInInF s s') : Follows (execStDecode s) (execStDecode s') := by
  obtain ⟨v, es, rfl, hv, hes⟩ := h.exists_eq
  have hpopped : DifferInInF (rxPop 10 s).2 (rxPop 10 { s with inF := v, events := es }).2 := ⟨rfl, hv, hes⟩
  exact .next (differInInF_decodeBytes hpopped (s.rxq.take 10))

theorem execStRdActuators_follows (h : DifferInInF s s') : Follows (execStRdActuators s) (execStRdActuators s') := by
  refine runPlcState_follows (fun d u u' hu => ?_) h
  obtain ⟨v, es, rfl, -, -⟩ := hu.exists_eq
  simp only [encodeOverride_coilsOf]
  exact .next (differInInF_loadReply (differInInF_setAct hu _) _)

theorem execStSendReply_follows (h : DifferInInF s s') : Follows (execStSendReply s) (execStSendReply s') := by
  obtain ⟨v, es, rfl, -, -⟩ := h.exists_eq
  have hoffered : offered { s with inF := v, events := es } = offered s := rfl
  unfold execStSendReply
  rw [hoffered]
  dsimp only
  split_ifs
  · cases offered s with
    | next b => exact .next h
    | fault f => exact .fault f _
    | refused r => exact .refused r _
  · exact .next (differInInF_setSt h .persist)
  · exact .next h

theorem execStPersist_follows (h : DifferInInF s s') : Follows (execStPersist s) (execStPersist s') := by
  intro t ht
  unfold execStPersist at ht
  split at ht <;> cases ht
  obtain ⟨rec', hrec', hevent⟩ := recordOf_follows h ‹_›
  exact ⟨_, by simp [execStPersist, hrec'], differInInF_enterAwait (differInInF_emit h hevent)⟩

theorem execStTeardown_follows (h : DifferInInF s s') : Follows (execStTeardown s) (execStTeardown s') :=
  .next (differInInF_setSt (differInInF_emit_same (differInInF_emit_same h _) _) .halted)

/-- CORE's turn, state by state. -/
theorem runCore_follows (h : DifferInInF s s') : Follows (runCore s) (runCore s') := by
  have hst' : s'.st = s.st := by rw [h.same]
  rw [runCore_eq_exec, runCore_eq_exec, hst']
  cases s.st
  case init => exact execStInit_follows h
  case await => exact execStAwait_follows h
  case decode => exact execStDecode_follows h
  case wrAnalog | wrInflags | wrOutflags => exact runPlcState_follows (fun _ _ _ hu => .next (differInInF_setSt hu _)) h
  case rdOverride => exact runPlcState_follows (fun _ _ _ hu => .next (differInInF_setSt (differInInF_setOvr hu _) _)) h
  case wrOutflags2 => exact runPlcState_follows (fun _ _ _ hu => .next (differInInF_loadReply hu _)) h
  case rdActuators => exact execStRdActuators_follows h
  case sendReply => exact execStSendReply_follows h
  case persist => exact execStPersist_follows h
  case backoff => exact .next (differInInF_enterAwait h)
  case teardown => exact execStTeardown_follows h
  case halted | failed => exact .next h
  case reserved => exact .fault .reservedState _

/-! ### The other agents' turns -/

theorem plcRespond_follows (h : DifferInInF s s') (r : RspWord) : Follows (plcRespond r s) (plcRespond r s') := by
  obtain ⟨v, es, rfl, hv, hes⟩ := h.exists_eq
  have henabled : plcEnabled { s with inF := v, events := es } = plcEnabled s := rfl
  have hshown : DifferInInF { s with rspIn := some r } { s with inF := v, events := es, rspIn := some r } := ⟨rfl, hv, hes⟩
  unfold plcRespond
  rw [henabled]
  split_ifs
  · exact runCore_follows (differInInF_emit_same hshown (.rsp r))
  · exact .next h

theorem txAccept_follows (h : DifferInInF s s') : Follows (txAccept s) (txAccept s') := by
  obtain ⟨v, es, rfl, hv, hes⟩ := h.exists_eq
  have henabled : txEnabled { s with inF := v, events := es } = txEnabled s := rfl
  have hoffered : offered { s with inF := v, events := es } = offered s := rfl
  have hsent : DifferInInF { s with txi := s.txi + 1 } { s with inF := v, events := es, txi := s.txi + 1 } := ⟨rfl, hv, hes⟩
  unfold txAccept
  rw [henabled, hoffered]
  split_ifs
  · cases offered s with
    | next b => exact .next (differInInF_emit_same hsent (.tx b))
    | fault f => exact .fault f _
    | refused r => exact .refused r _
  · exact .next h

theorem stimulate_follows (h : DifferInInF s s') (e : Stimulus) : Follows (stimulate e s) (stimulate e s') := by
  obtain ⟨v, es, rfl, hv, hes⟩ := h.exists_eq
  cases e with
  | core => exact runCore_follows h
  | rx b => exact .next (differInInF_rxByte h b)
  | shutdown => exact .next (differInInF_emit_same ⟨rfl, hv, hes⟩ .shutdown)
  | rsp r => exact plcRespond_follows h r
  | accept => exact txAccept_follows h
  | reset => exact .next (differInInF_resetBlock h)
  | link ser plc => exact .next ⟨rfl, hv, hes⟩
  | clock ts => exact .next ⟨rfl, hv, hes⟩

theorem step_follows (h : DifferInInF s s') : Follows (step s) (step s') := by
  obtain ⟨v, es, rfl, -, -⟩ := h.exists_eq
  unfold step turn
  dsimp only
  split
  · split
    · exact runCore_follows h
    · split
      · exact runCore_follows h
      · exact stimulate_follows (differInInF_setSched h _) _
  · exact .refused .illegalConfiguration _

end

/-- Settles O57: a state is related to itself with other input flags, and every step keeps the relation. -/
theorem controlIgnoresTheInputFlags : Obligations.ControlIgnoresTheInputFlags := by
  refine ⟨fun s v v' hv => ⟨rfl, by rw [hv]; rfl, ?_⟩, fun s s' t h ht => step_follows h t ht⟩
  exact List.forall₂_same.2 fun e _ => equalButInF_refl s.cfg e

end Sys2Proof.Safety
end

section
/-! PROOFS. The statements of 41_gateway.md: what each PLC operation asks the PLC for and what it returns. The six operations are
one run of a call, so issuing and returning are each proved once, for every operation. -/

namespace Sys2Proof.Gateway

open Sys2Proof.Machine Sys2Proof.Safety Sys2Proof.Encoding

/-! ### The six operations as one run -/

/-- What the operation returns on a success (41_gateway.md R171 to R176). -/
def opValue : GatewayOp → Config → BitVec 16 → OpResult
  | .writeAnalog | .writeInputFlags | .writeOutputFlags | .writeOutputFlags2 => fun _ _ => .done
  | .readOverrideFlag => fun _ rdata => .flag (overrideOf rdata)
  | .readActuatorCoils => fun cfg rdata => .coils (actuatorsOf cfg rdata)

theorem exec_instrOfOp (op : GatewayOp) (s : State) : exec (instrOfOp op) s = runOperation op (opValue op) s := by
  cases op <;> rfl

/-! ### Issuing the request (20_memory.md R67) -/

section
variable {op : GatewayOp} {s : State} {r : Request} (hpend : s.pend = false) (hreq : operandsOf op s = .next r)
include hpend hreq

theorem plcCall_issues : plcCall op s = .next (.waiting (issued r s)) := by
  simp only [plcCall, hpend, hreq]; rfl

theorem exec_issues : exec (instrOfOp op) s = .next (issued r s) := by
  rw [exec_instrOfOp, runOperation, plcCall_issues hpend hreq]

end

/-- An operation that goes on with no request outstanding had its operands. -/
theorem operandsOf_of_exec {op : GatewayOp} {s t : State} (hpend : s.pend = false) (h : exec (instrOfOp op) s = .next t) :
    ∃ r, operandsOf op s = .next r ∧ t = issued r s := by
  rw [exec_instrOfOp] at h
  rcases runOperation_next h with ⟨hp, -⟩ | ⟨r, -, hreq, ht⟩ | ⟨_, _, hp, -⟩ | ⟨_, _, hp, -⟩
  · simp [hpend] at hp
  · exact ⟨r, hreq, ht⟩
  · simp [hpend] at hp
  · simp [hpend] at hp

/-- Settles O58: the request is read off the configuration and the SensorFrame registers alone. -/
theorem sameFrameSameRequests : Obligations.SameFrameSameRequests := by
  intro s s' t i hi hpend hpend' hcfg hl1 hl2 htds hflow hpressure hin hout hout2 h
  obtain ⟨op, rfl⟩ : ∃ op, instrOfOp op = i := by
    simp only [List.mem_cons, List.not_mem_nil, or_false] at hi
    rcases hi with rfl | rfl | rfl | rfl | rfl | rfl
    exacts [⟨.writeAnalog, rfl⟩, ⟨.writeInputFlags, rfl⟩, ⟨.writeOutputFlags, rfl⟩, ⟨.writeOutputFlags2, rfl⟩,
      ⟨.readOverrideFlag, rfl⟩, ⟨.readActuatorCoils, rfl⟩]
  have hsame : operandsOf op s' = operandsOf op s := by
    simp only [operandsOf, hcfg, hl1, hl2, htds, hflow, hpressure, hin, hout, hout2]
  obtain ⟨r, hreq, rfl⟩ := operandsOf_of_exec hpend h
  exact ⟨r, issued r s', exec_issues hpend' (hsame.trans hreq), rfl, rfl⟩

/-! ### The data of the writes (R171 to R174, 20_memory.md R66, R68) -/

/-- The 16-bit registers of a concatenation: the low part is the first, the rest are those of the high part. -/
theorem registers_append {v : Nat} (x : BitVec v) (y : BitVec 16) (n : Nat) :
    (List.range (n + 1)).map (fun k => (x ++ y).extractLsb' (16 * k) 16)
      = y :: (List.range n).map (fun k => x.extractLsb' (16 * k) 16) := by
  have htail (k : Nat) : (x ++ y).extractLsb' (16 * (k + 1)) 16 = x.extractLsb' (16 * k) 16 := by
    rw [BitVec.extractLsb'_append_eq_of_le (by omega), Nat.mul_succ, Nat.add_sub_cancel]
  have hhead : (x ++ y).extractLsb' (16 * 0) 16 = y := extractLsb'_append_low x y
  simp only [List.range_succ_eq_map, List.map_cons, List.map_map, hhead, Function.comp_def, htail]

theorem carriesChannels_analogData (l1 l2 t f p : Byte) : CarriesChannels (analogData l1 l2 t f p) [l1, l2, t, f, p] := by
  rw [CarriesChannels, analogData, registers_append, registers_append, registers_append, registers_append]
  simp

/-- A flag register of at most eighty bits, widened, is the coils it holds with zeros above. -/
theorem carriesCoils_setWidth {w : Nat} (hw : w ≤ 80) (v : BitVec w) : CarriesCoils (v.setWidth 80) v := by
  intro k
  rw [BitVec.getLsbD_setWidth]
  rcases Nat.lt_or_ge k 80 with hk | hk
  · simp [hk]
  · simp [BitVec.getLsbD_of_ge v k (hw.trans hk)]

/-- Settles O12: the five channels are the operands. -/
theorem writeAnalogIssuesItsRequest : Obligations.WriteAnalogIssuesItsRequest := by
  intro s l1 l2 t f p hpend hl1 hl2 htds hflow hpressure
  have hreq : operandsOf .writeAnalog s = .next (requestOf s.cfg .writeAnalog (analogData l1 l2 t f p)) := by
    simp only [operandsOf, hl1, hl2, htds, hflow, hpressure, readReg_some]
  exact ⟨_, ⟨rfl, rfl, rfl, carriesChannels_analogData l1 l2 t f p⟩, exec_issues hpend hreq⟩

/-- The write of a flag register, with the base and the count of its operation. -/
theorem exec_issues_coilWrite {op : GatewayOp} {s : State} {w : Nat} {v : BitVec w} (hpend : s.pend = false)
    (hfc : opFc op = 0x0F#8) (hw : w ≤ 80) (hreq : operandsOf op s = .next (requestOf s.cfg op (v.setWidth 80))) :
    ∃ r, IsCoilWrite (opAddr s.cfg op) (opCnt s.cfg op) v r ∧ exec (instrOfOp op) s = .next (issued r s) :=
  ⟨_, ⟨hfc, rfl, rfl, carriesCoils_setWidth hw v⟩, exec_issues hpend hreq⟩

/-- Settles O13: the one operand of each is its flag register. -/
theorem flagWritesIssueTheirRequests : Obligations.FlagWritesIssueTheirRequests := by
  intro s hpend
  refine ⟨fun v hv => ?inflags, fun v hv => ?outflags, fun v hv => ?outflags2⟩
  case inflags =>
    exact exec_issues_coilWrite (op := .writeInputFlags) hpend rfl (by decide) (by rw [operandsOf, hv, readReg_some])
  case outflags =>
    exact exec_issues_coilWrite (op := .writeOutputFlags) hpend rfl (by decide) (by rw [operandsOf, hv, readReg_some])
  case outflags2 =>
    exact exec_issues_coilWrite (op := .writeOutputFlags2) hpend rfl (by decide) (by rw [operandsOf, hv, readReg_some])

/-- Settles O14: the reads have no operand but the override coil, which the configuration gives. -/
theorem coilReadsIssueTheirRequests : Obligations.CoilReadsIssueTheirRequests := by
  intro s hpend
  refine ⟨fun c hc => ?_, _, ⟨rfl, rfl, rfl, rfl⟩, exec_issues (op := .readActuatorCoils) hpend rfl⟩
  have haddr : opAddr s.cfg .readOverrideFlag = c := by rw [opAddr, hc]; rfl
  have hreq : operandsOf .readOverrideFlag s = .next (requestOf s.cfg .readOverrideFlag 0) := by rw [operandsOf, hc]
  exact ⟨_, ⟨rfl, haddr, rfl, rfl⟩, exec_issues hpend hreq⟩

/-! ### Returning the response (R170 to R176) -/

section
variable {s : State} {r : RspWord} (hpend : s.pend = true) (hrsp : s.rspIn = some r)
include hpend hrsp

theorem plcCall_returns (op : GatewayOp) : plcCall op s = .next (.returned (responseOf r) (answered s)) := by
  simp only [plcCall, hpend, hrsp]; rfl

theorem exec_of_success (hok : r.ok = true) (op : GatewayOp) :
    exec (instrOfOp op) s = .next { answered s with ret := some (opValue op s.cfg r.rdata) } := by
  have hresponse : responseOf r = .ok r.rdata := if_pos hok
  rw [exec_instrOfOp, runOperation, plcCall_returns hpend hrsp, hresponse]; rfl

theorem exec_of_failure (hfail : r.ok = false) (op : GatewayOp) :
    exec (instrOfOp op) s = .next { answered s with ret := some (.gatewayError op (causeOfCode r.cause)) } := by
  have hresponse : responseOf r = .err (causeOfCode r.cause) := if_neg (by simp [hfail])
  rw [exec_instrOfOp, runOperation, plcCall_returns hpend hrsp, hresponse]

end

/-- Settles O15: one return for all six operations, each with its own value. -/
theorem operationsReturnTheResponse : Obligations.OperationsReturnTheResponse := by
  intro s r hpend hrsp
  constructor
  · intro hok
    have hop := exec_of_success hpend hrsp hok
    exact ⟨hop .writeAnalog, hop .writeInputFlags, hop .writeOutputFlags, hop .writeOutputFlags2, hop .readOverrideFlag,
      _, pad16_getLsbD r.rdata s.cfg.actCount, hop .readActuatorCoils⟩
  · intro hfail
    have hop := exec_of_failure hpend hrsp hfail
    exact ⟨hop .writeAnalog, hop .writeInputFlags, hop .writeOutputFlags, hop .writeOutputFlags2, hop .readOverrideFlag,
      hop .readActuatorCoils⟩

end Sys2Proof.Gateway
end

section
/-! PROOFS. The statements of 42_bridge_loop.md: what CORE does in each state, what the other agents do around it, the moves of
`st`, and the shape of a whole cycle. -/

namespace Sys2Proof.BridgeLoop

open Sys2Proof.Machine Sys2Proof.Safety Sys2Proof.Encoding Sys2Proof.Codec Sys2Proof.Gateway

/-! ### The states that make no PLC call -/

/-- A set `shutdown` wins over a ready frame (R202). -/
theorem exec_stAwait_of_shutdown {s : State} (h : s.shutdown = true) :
    exec .stAwait s = .next { s with st := .teardown } :=
  if_pos h

theorem exec_stAwait_of_ten {s : State} (h : s.shutdown = false) (hten : 10 ≤ s.rxq.length) :
    exec .stAwait s = .next { s with st := .decode } :=
  (if_neg (by simp [h])).trans (if_pos hten)

theorem exec_stAwait_of_fewer {s : State} (h : s.shutdown = false) (hfew : s.rxq.length < 10) :
    exec .stAwait s = .next s :=
  (if_neg (by simp [h])).trans (if_neg (Nat.not_le.2 hfew))

/-- Settles O18: one equation per branch of R202. -/
theorem awaitWaitsForTenBytesOrShutdown : Obligations.AwaitWaitsForTenBytesOrShutdown :=
  fun _ => ⟨exec_stAwait_of_shutdown, exec_stAwait_of_ten, exec_stAwait_of_fewer⟩

/-- Bits 7:2 of a start-up log's aux0 are 0 (30_encoding.md R101). -/
theorem startupAux_getLsbD_of_two_le (ser plc : Bool) {k : Nat} (hk : 2 ≤ k) : (startupAux ser plc).getLsbD k = false := by
  have hser : ¬k < 1 := by omega
  have hplc : ¬k - 1 < 1 := by omega
  change BitVec.getLsbD (w := 6 + 1 + 1) (_ ++ _) k = false
  rw [BitVec.getLsbD_append, if_neg hser, BitVec.getLsbD_append, if_neg hplc, BitVec.getLsbD_zero]

/-- Settles O17: with both links up AWAIT is entered; else the one start-up word names the links that are not. -/
theorem initChecksBothLinks : Obligations.InitChecksBothLinks := by
  intro s
  refine ⟨fun hser hplc => ?_, fun hdown => ?_⟩
  · exact congrArg Host.Outcome.next (if_pos (by rw [hser, hplc]; rfl))
  · refine ⟨_, startupAux (!s.serLinkOk) (!s.plcLinkOk), logFields_logWordOf 0 _ 0 0xF 0x5, startupAux_getElem_zero _ _,
      startupAux_getElem_one _ _, fun k => startupAux_getLsbD_of_two_le _ _, ?_⟩
    exact congrArg Host.Outcome.next (if_neg (by simp [hdown]))

/-- Settles O26: the two closes of TEARDOWN stand in the history as one list of two. -/
theorem backoffReturnsAndTeardownCloses : Obligations.BackoffReturnsAndTeardownCloses := by
  intro s
  have hcloses : s.events ++ [Event.close .serial] ++ [.close .plc] = s.events ++ [.close .serial, .close .plc] :=
    List.append_assoc _ _ _
  exact ⟨rfl, by rw [← hcloses]; rfl⟩

/-! ### DECODE and the frame it performs (R203) -/

/-- DECODE decodes the ten bytes at the head and leaves the rest of the FIFO, whatever the outcome. -/
theorem exec_stDecode_of_head {s : State} {bs rest : List Byte} (hlen : bs.length = 10) (hrxq : s.rxq = bs ++ rest) :
    exec .stDecode s = .next (decodeBytes bs { s with rxq := rest }) := by
  calc exec .stDecode s = .next (decodeBytes (s.rxq.take 10) { s with rxq := s.rxq.drop 10 }) := rfl
    _ = .next (decodeBytes bs { s with rxq := rest }) := by
      rw [hrxq, ← hlen, List.take_left, List.drop_left]

/-- The instruction whose word is a group of the receive stream is FRAME, which decodes that group. -/
theorem exec_of_encode_rxGroup {cfg : Config} {i : Instr} {bs : List Byte} (h : encode cfg i = .rxGroup bs) (s : State) :
    exec i s = .next (decodeBytes bs s) := by
  cases i with
  | frame l1 l2 t f p i o r o2 k =>
    obtain rfl := PortWord.rxGroup.inj h
    rfl
  | _ => cases h

/-- The decoder of words and the codec report a wrong start byte alike (30_encoding.md R92). -/
theorem codecDecode_of_decodeGroup_badStartByte {bs : List Byte} {b : Byte} (h : decodeGroup bs = .error (.badStartByte b)) :
    codecDecode bs = .error (.badStartByte b) := by
  unfold decodeGroup at h
  split at h
  · split at h <;> cases h
    exact (codecDecode_eq_badStartByte_iff _ _).2 ⟨rfl, rfl, ‹_›⟩
  · cases h

/-- Settles O7: both sides decode the ten bytes popped, or take the framing error the codec gives for them. -/
theorem decodePerformsItsFrame : Obligations.DecodePerformsItsFrame := by
  intro s hten
  have hdecode : exec .stDecode s = .next (decodeBytes (s.rxq.take 10) { s with rxq := s.rxq.drop 10 }) := rfl
  rw [hdecode]
  refine ⟨fun i hi => ?_, fun b hb => ?_⟩
  · exact (exec_of_encode_rxGroup (encode_of_decodeGroup s.cfg hi) _).symm
  · rw [decodeBytes_of_error (codecDecode_of_decodeGroup_badStartByte hb)]
    rfl

/-- Settles O19: the codec's first failing check, or none, decides what DECODE does with the ten bytes at the head. -/
theorem decodeConsumesTenBytes : Obligations.DecodeConsumesTenBytes := by
  intro s b0 b1 b2 b3 b4 b5 b6 b7 b8 b9 rest hrxq fold
  have hfold : xorfold ([b0, b1, b2, b3, b4, b5, b6, b7, b8, b9].take 9) = fold := by simp [xorfold, fold]
  rw [exec_stDecode_of_head rfl hrxq]
  refine ⟨fun hstart => ?_, fun hstart hsum => ?_, fun hstart hsum => ?_⟩
  · have herr := (codecDecode_eq_badStartByte_iff [b0, b1, b2, b3, b4, b5, b6, b7, b8, b9] b0).2 ⟨rfl, rfl, hstart⟩
    exact ⟨_, logFields_logWordOf 0 b0 0 0xF 0x2, by rw [decodeBytes_of_error herr]; rfl⟩
  · have herr := (codecDecode_eq_checksumMismatch_iff [b0, b1, b2, b3, b4, b5, b6, b7, b8, b9] fold b9).2
      ⟨rfl, hstart, hfold.symm, rfl, hsum⟩
    exact ⟨_, logFields_logWordOf b9 fold 0 0xF 0x3, by rw [decodeBytes_of_error herr]; rfl⟩
  · rw [decodeBytes_of_good (bs := [b0, b1, b2, b3, b4, b5, b6, b7, b8, b9]) rfl hstart (hfold.trans hsum)]
    rfl

/-! ### The six PLC states (R204 to R209)

Each is its operation until a response is shown, and then goes on by its success or backs off by its failure. -/

section
variable {s : State} {op : GatewayOp} {onOk : BitVec 16 → State → Host.Outcome State Fault Refusal}

/-- With no response at hand a PLC state only issues its request or holds, as its operation does. -/
theorem runPlcState_eq_exec (h : s.pend = false ∨ s.rspIn = none) : runPlcState op onOk s = exec (instrOfOp op) s := by
  rw [exec_instrOfOp, runPlcState, runOperation]
  rcases plcCall_cases op s with ⟨-, -, hc⟩ | ⟨r, hpend, hrsp, -⟩ | ⟨rq, -, -, hc⟩ | ⟨f, -, -, hc⟩ | ⟨r, -, -, hc⟩
  case inr.inl => simp [hpend, hrsp] at h
  all_goals rw [hc]

variable {r : RspWord} (hpend : s.pend = true) (hrsp : s.rspIn = some r)
include hpend hrsp

theorem runPlcState_of_success (hok : r.ok = true) : runPlcState op onOk s = onOk r.rdata (answered s) := by
  have hresponse : responseOf r = .ok r.rdata := if_pos hok
  rw [runPlcState, plcCall_returns hpend hrsp, hresponse]

theorem runPlcState_of_failure (hfail : r.ok = false) : FailsInto (opCode op) r.cause s (runPlcState op onOk s) := by
  have hresponse : responseOf r = .err (causeOfCode r.cause) := if_neg (by simp [hfail])
  refine ⟨logWordOf 0 0 (causeCode (causeOfCode r.cause)) (opCode op) 0x4, ?_, ?_⟩
  · rw [logFields_logWordOf, causeCode_causeOfCode]
    rfl
  · rw [runPlcState, plcCall_returns hpend hrsp, hresponse]
    rfl

end

/-- The image bit by bit is the padded word (40_codec.md R141). -/
theorem actuatorsOf_of_isPadded {cfg : Config} {rdata a : BitVec 16} (h : IsPadded rdata cfg.actCount a) :
    actuatorsOf cfg rdata = a :=
  BitVec.eq_of_getLsbD_eq fun k _ => (pad16_getLsbD rdata cfg.actCount k).trans (h k).symm

/-- RD_ACTUATORS stores the image and loads its reply [0xBB, a[7:0], a[15:8]] (R209). -/
theorem exec_stRdActuators_of_success {s : State} {r : RspWord} {a : BitVec 16} (hpend : s.pend = true)
    (hrsp : s.rspIn = some r) (hok : r.ok = true) (ha : IsPadded r.rdata s.cfg.actCount a) :
    exec .stRdActuators s
      = .next (loadReply [0xBB#8, a.extractLsb' 0 8, a.extractLsb' 8 8] { answered s with act := some a }) := by
  have hs : exec .stRdActuators s = _ := runPlcState_of_success hpend hrsp hok
  have himage : actuatorsOf (answered s).cfg r.rdata = a := actuatorsOf_of_isPadded ha
  rw [hs, himage, encodeOverride_coilsOf]

/-- Settles O9: each state loads the reply that its frame's instruction loads. -/
theorem repliesArePerformedByTheirStates : Obligations.RepliesArePerformedByTheirStates := by
  intro s r a hpend hrsp hok ha
  refine ⟨runPlcState_of_success hpend hrsp hok, ?_⟩
  rw [exec_stRdActuators_of_success hpend hrsp hok ha]
  exact ((repliesFillTheTransmitBuffer _).2 _ _).symm

/-- Settles O20: writeAnalog's call, with op code 0. -/
theorem wrAnalogThenQueriesOverride : Obligations.WrAnalogThenQueriesOverride :=
  fun _ => ⟨runPlcState_eq_exec (op := .writeAnalog), fun _ => runPlcState_of_success,
    fun _ => runPlcState_of_failure (op := .writeAnalog)⟩

/-- Settles O21: the bit that the success carries is the one stored and the one that selects. -/
theorem rdOverrideSelectsTheCycle : Obligations.RdOverrideSelectsTheCycle := by
  intro s
  refine ⟨runPlcState_eq_exec (op := .readOverrideFlag), fun r hpend hrsp hok hbit => ?_, fun r hpend hrsp hok hbit => ?_,
    fun _ => runPlcState_of_failure (op := .readOverrideFlag)⟩
  all_goals
    have hs : exec .stRdOverride s = _ := runPlcState_of_success hpend hrsp hok
    have hmode : overrideOf r.rdata = _ := hbit
    rw [hs, hmode]
    rfl

/-- Settles O22: three calls of one shape, with op codes 1, 2 and 3. -/
theorem flagWriteStatesFollowInOrder : Obligations.FlagWriteStatesFollowInOrder := by
  intro s
  refine ⟨fun h => ⟨?_, ?_, ?_⟩, fun r hpend hrsp hok => ⟨?_, ?_, ?_⟩, fun r hpend hrsp hfail => ⟨?_, ?_, ?_⟩⟩
  · exact runPlcState_eq_exec (op := .writeInputFlags) h
  · exact runPlcState_eq_exec (op := .writeOutputFlags) h
  · exact runPlcState_eq_exec (op := .writeOutputFlags2) h
  · exact runPlcState_of_success hpend hrsp hok
  · exact runPlcState_of_success hpend hrsp hok
  · exact runPlcState_of_success hpend hrsp hok
  · exact runPlcState_of_failure (op := .writeInputFlags) hpend hrsp hfail
  · exact runPlcState_of_failure (op := .writeOutputFlags) hpend hrsp hfail
  · exact runPlcState_of_failure (op := .writeOutputFlags2) hpend hrsp hfail

/-- Settles O23: the image is the padded data, and its reply is loaded. -/
theorem rdActuatorsPreparesTheOverrideReply : Obligations.RdActuatorsPreparesTheOverrideReply := by
  intro s
  refine ⟨runPlcState_eq_exec (op := .readActuatorCoils), fun r hpend hrsp hok => ?_,
    fun _ => runPlcState_of_failure (op := .readActuatorCoils)⟩
  have ha : IsPadded r.rdata s.cfg.actCount (pad16 r.rdata s.cfg.actCount) := pad16_getLsbD r.rdata s.cfg.actCount
  exact ⟨_, ha, exec_stRdActuators_of_success hpend hrsp hok ha⟩

/-! ### The byte on offer (R210, R220) -/

/-- The byte that `txb[i]` names is what its register holds. -/
theorem txReg_snd_of_getElem? {s : State} {i : Nat} {v : Option Byte} (h : [s.txb0, s.txb1, s.txb2][i]? = some v) :
    (txReg s i).2 = v := by
  match i, h with
  | 0, h | 1, h | 2, h => exact Option.some.inj h
  | _ + 3, h => simp at h

theorem txReg_fst_mem (s : State) (i : Nat) : (txReg s i).1 ∈ [Reg.txb0, .txb1, .txb2] := by
  unfold txReg
  split <;> simp

theorem offered_of_held {s : State} {b : Byte} (h : [s.txb0, s.txb1, s.txb2][s.txi]? = some (some b)) :
    offered s = .next b := by
  rw [offered, txReg_snd_of_getElem? h, readReg_some]

theorem offered_of_empty {s : State} (h : [s.txb0, s.txb1, s.txb2][s.txi]? = some none) :
    offered s = .fault (.noValue (txReg s s.txi).1) := by
  rw [offered, txReg_snd_of_getElem? h, readReg_none]

/-- Settles O24: all bytes accepted, or one held on offer. -/
theorem sendReplyWaitsForEveryByte : Obligations.SendReplyWaitsForEveryByte := by
  intro s
  have hexec : exec .stSendReply s = execStSendReply s := rfl
  rw [hexec, execStSendReply]
  refine ⟨fun hsent => ?_, fun hlt ⟨b, hb⟩ => ?_⟩
  · rw [if_neg (by omega), if_pos hsent]
  · rw [if_pos hlt, offered_of_held hb, hold]

/-! ### A turn of each agent -/

section
variable {s : State} {rest : List Stimulus} (hlegal : cfgLegal s.cfg = true)
include hlegal

/-- A scheduled turn of CORE runs the instruction of `st`. -/
theorem step_core (hs : s.sched = .core :: rest) : step s = exec (instrOfSt s.st) { s with sched := rest } := by
  rw [step_of_legal hlegal, turn_core hs, runCore_eq_exec]

/-- Outside the reserved code a step is its stimulus. -/
theorem step_stimulus {e : Stimulus} (hs : s.sched = e :: rest) (hst : s.st ≠ .reserved) :
    step s = stimulate e { s with sched := rest } := by
  rw [step_of_legal hlegal, turn_cons hs hst]

/-- At the reserved code every turn but a reset's is the fault (R216). -/
theorem step_of_reserved (hst : s.st = .reserved) (hreset : ¬NextIsReset s) : step s = .fault .reservedState := by
  rw [step_of_legal hlegal, ← runCore_of_reserved hst]
  cases hs : s.sched with
  | nil => exact turn_nil hs
  | cons e rest =>
    have he : e ≠ .reset := fun h => hreset ⟨rest, by rw [hs, h]⟩
    simp [turn, hs, hst, he]

end

section
variable {s : State}

/-- A response to an outstanding request is recorded and shown to the instruction of `st` (R219). -/
theorem plcRespond_of_outstanding (r : RspWord) (hpend : s.pend = true) (hop : (plcOpOf s.st).isSome = true) :
    plcRespond r s = exec (instrOfSt s.st) { s with rspIn := some r, events := s.events ++ [.rsp r] } := by
  have henabled : plcEnabled s = true := by rw [plcEnabled, hpend, hop]; rfl
  rw [plcRespond, if_pos henabled, runCore_eq_exec]
  rfl

theorem plcRespond_of_disabled (r : RspWord) (h : plcEnabled s = false) : plcRespond r s = .next s :=
  if_neg (by simp [h])

theorem txEnabled_iff : txEnabled s = true ↔ s.st = .sendReply ∧ s.txi < s.txn := by
  simp [txEnabled]

/-- The byte on offer is recorded and counted (R220). -/
theorem txAccept_of_held {b : Byte} (hst : s.st = .sendReply) (hlt : s.txi < s.txn)
    (hb : [s.txb0, s.txb1, s.txb2][s.txi]? = some (some b)) :
    txAccept s = .next { s with txi := s.txi + 1, events := s.events ++ [.tx b] } := by
  rw [txAccept, if_pos (txEnabled_iff.2 ⟨hst, hlt⟩), offered_of_held hb]
  rfl

theorem txAccept_of_empty (hst : s.st = .sendReply) (hlt : s.txi < s.txn)
    (hb : [s.txb0, s.txb1, s.txb2][s.txi]? = some none) : txAccept s = .fault (.noValue (txReg s s.txi).1) := by
  rw [txAccept, if_pos (txEnabled_iff.2 ⟨hst, hlt⟩), offered_of_empty hb]

theorem txAccept_of_no_offer (h : ¬(s.st = .sendReply ∧ s.txi < s.txn)) : txAccept s = .next s :=
  if_neg fun hen => h (txEnabled_iff.1 hen)

end

/-- Settles O31: the pulse's turn is its two updates. -/
theorem shutdownPulseOnlySetsItsFlag : Obligations.ShutdownPulseOnlySetsItsFlag := by
  intro s rest hlegal hs hst
  rw [step_stimulus hlegal hs hst]
  rfl

/-- Settles O6: the PLC agent is enabled in the first case and not in the second. -/
theorem responseRunsTheCompletionPart : Obligations.ResponseRunsTheCompletionPart := by
  intro s i r rest hlegal hs hdecode
  obtain rfl : instrOfSt s.st = i := by simpa [decode] using hdecode
  refine ⟨fun hpend hop => ?_, fun hpend hst => ?_⟩
  · have hst : s.st ≠ .reserved := fun h => by simp [h, plcOpOf] at hop
    exact (step_stimulus hlegal hs hst).trans (plcRespond_of_outstanding (s := { s with sched := rest }) r hpend hop)
  · have hdisabled : plcEnabled s = false := by rw [plcEnabled, hpend]; rfl
    exact (step_stimulus hlegal hs hst).trans (plcRespond_of_disabled (s := { s with sched := rest }) r hdisabled)

/-- Settles O32: what is offered, when something is, decides the accept. -/
theorem transmitAcceptTakesTheOfferedByte : Obligations.TransmitAcceptTakesTheOfferedByte := by
  intro s rest hlegal hs
  have hstep (hst : s.st ≠ .reserved) : step s = txAccept { s with sched := rest } := step_stimulus hlegal hs hst
  refine ⟨fun b hst hlt hb => ?_, fun hst hlt hb => ?_, fun hst hidle => ?_⟩
  · exact (hstep (by simp [hst])).trans (txAccept_of_held (s := { s with sched := rest }) hst hlt hb)
  · exact ⟨_, txReg_fst_mem s s.txi,
      (hstep (by simp [hst])).trans (txAccept_of_empty (s := { s with sched := rest }) hst hlt hb)⟩
  · exact (hstep hst).trans (txAccept_of_no_offer (s := { s with sched := rest }) hidle)

/-! ### The moves of `st` -/

/-- Where CORE's turn can go from a state, given the shutdown flag (R201 to R216). -/
def successors (shutdown : Bool) : St → List St
  | .init => [.await, .failed]
  | .await => if shutdown then [.teardown] else [.await, .decode]
  | .decode => [.await, .wrAnalog]
  | .wrAnalog => [.wrAnalog, .backoff, .rdOverride]
  | .rdOverride => [.rdOverride, .backoff, .wrInflags, .rdActuators]
  | .wrInflags => [.wrInflags, .backoff, .wrOutflags]
  | .wrOutflags => [.wrOutflags, .backoff, .wrOutflags2]
  | .wrOutflags2 => [.wrOutflags2, .backoff, .sendReply]
  | .rdActuators => [.rdActuators, .backoff, .sendReply]
  | .sendReply => [.sendReply, .persist]
  | .persist => [.await]
  | .backoff => [.await]
  | .teardown => [.halted]
  | .halted => [.halted]
  | .failed => [.failed]
  | .reserved => []

/-- A PLC state stays, backs off, or goes where its success leads. -/
theorem st_runPlcState {op : GatewayOp} {onOk : BitVec 16 → State → Host.Outcome State Fault Refusal} {s t : State}
    {st : St} {onward : List St} (hst : s.st = st) (h : runPlcState op onOk s = .next t)
    (hok : ∀ d, onOk d (clearPend s) = .next t → t.st ∈ onward) :
    t.st ∈ st :: .backoff :: onward := by
  subst hst
  rcases runPlcState_next h with ⟨-, -, rfl⟩ | ⟨rq, -, -, rfl⟩ | ⟨r, d, -, -, -, hd⟩ | ⟨r, c, -, -, -, rfl⟩
  · exact List.mem_cons_self
  · exact List.mem_cons_self
  · exact List.mem_cons_of_mem _ (List.mem_cons_of_mem _ (hok d hd))
  · exact List.mem_cons_of_mem _ List.mem_cons_self

theorem st_execStInit {s t : State} (h : execStInit s = .next t) : t.st ∈ [St.await, .failed] := by
  obtain rfl := Host.Outcome.next.inj h
  split <;> simp [takeError]

theorem st_execStAwait {s t : State} (hst : s.st = .await) (h : execStAwait s = .next t) :
    t.st ∈ successors s.shutdown .await := by
  cases hshut : s.shutdown with
  | true =>
    obtain rfl := Host.Outcome.next.inj (h.symm.trans (exec_stAwait_of_shutdown hshut))
    exact List.mem_singleton.2 rfl
  | false =>
    rcases Nat.lt_or_ge s.rxq.length 10 with hfew | hten
    · obtain rfl := Host.Outcome.next.inj (h.symm.trans (exec_stAwait_of_fewer hshut hfew))
      simp [successors, hst]
    · obtain rfl := Host.Outcome.next.inj (h.symm.trans (exec_stAwait_of_ten hshut hten))
      simp [successors]

theorem st_execStDecode {s t : State} (h : execStDecode s = .next t) : t.st ∈ [St.await, .wrAnalog] := by
  obtain rfl := Host.Outcome.next.inj h
  rcases decodeBytes_cases (rxPop 10 s).1 (rxPop 10 s).2 with ⟨f, -, ht⟩ | ⟨e, -, ht⟩ <;> rw [ht]
  · exact List.mem_cons_of_mem _ List.mem_cons_self
  · exact List.mem_cons_self

theorem st_execStRdActuators {s t : State} (hst : s.st = .rdActuators) (h : execStRdActuators s = .next t) :
    t.st ∈ [St.rdActuators, .backoff, .sendReply] := by
  refine st_runPlcState hst h fun d hd => ?_
  rw [encodeOverride_coilsOf] at hd
  obtain rfl := Host.Outcome.next.inj hd
  exact List.mem_singleton.2 rfl

theorem st_execStSendReply {s t : State} (hst : s.st = .sendReply) (h : execStSendReply s = .next t) :
    t.st ∈ [St.sendReply, .persist] := by
  rw [← hst]
  unfold execStSendReply hold at h
  split at h
  · split at h <;> cases h
    simp
  · split at h <;> obtain rfl := Host.Outcome.next.inj h <;> simp

theorem st_execStPersist {s t : State} (h : execStPersist s = .next t) : t.st ∈ [St.await] := by
  unfold execStPersist at h
  split at h <;> cases h
  simp

/-- CORE's turn goes to a successor, state by state. -/
theorem st_exec {s t : State} (h : exec (instrOfSt s.st) s = .next t) : t.st ∈ successors s.shutdown s.st := by
  cases hst : s.st <;> rw [hst] at h
  case init => exact st_execStInit h
  case await => exact st_execStAwait hst h
  case decode => exact st_execStDecode h
  case wrAnalog | wrInflags | wrOutflags | wrOutflags2 =>
    exact st_runPlcState hst h fun d hd => by
      obtain rfl := Host.Outcome.next.inj hd
      exact List.mem_singleton.2 rfl
  case rdOverride =>
    exact st_runPlcState (onward := [.wrInflags, .rdActuators]) hst h fun d hd => by
      obtain rfl := Host.Outcome.next.inj hd
      cases overrideOf d <;> simp
  case rdActuators => exact st_execStRdActuators hst h
  case sendReply => exact st_execStSendReply hst h
  case persist => exact st_execStPersist h
  case backoff | teardown | halted | failed =>
    obtain rfl := Host.Outcome.next.inj h
    simp [successors, hst]
  case reserved => cases h

/-- A step that answers leaves `st` where it was, takes it to a successor, or is a reset's. -/
theorem st_step {s t : State} (h : step s = .next t) :
    (t.st = s.st ∧ s.st ≠ .reserved) ∨ t.st ∈ successors s.shutdown s.st ∨ (NextIsReset s ∧ t.st = .init) := by
  obtain ⟨-, ⟨-, hexec⟩ | ⟨-, hexec⟩ | ⟨e, rest, hs, hres, hstim⟩⟩ := step_next h
  · exact .inr (.inl (st_exec hexec))
  · exact .inr (.inl (st_exec hexec))
  · cases e with
    | reset =>
      obtain rfl := Host.Outcome.next.inj hstim
      exact .inr (.inr ⟨⟨rest, hs⟩, rfl⟩)
    | core =>
      rw [stimulate, runCore_eq_exec] at hstim
      exact .inr (.inl (st_exec (s := { s with sched := rest }) hstim))
    | rsp r =>
      rcases plcRespond_next hstim with ⟨-, hexec⟩ | ⟨-, rfl⟩
      · exact .inr (.inl (st_exec (s := emit (.rsp r) { s with sched := rest, rspIn := some r }) hexec))
      · exact .inl ⟨rfl, fun hst => by cases hres hst⟩
    | accept =>
      refine .inl ⟨?_, fun hst => by cases hres hst⟩
      rcases txAccept_next hstim with ⟨b, -, -, rfl⟩ | ⟨-, rfl⟩ <;> rfl
    | rx b =>
      obtain rfl := Host.Outcome.next.inj hstim
      refine .inl ⟨?_, fun hst => by cases hres hst⟩
      rcases rxByte_cases b { s with sched := rest } with ⟨-, ht⟩ | ⟨-, -, ht⟩ | ⟨-, -, ht⟩ <;> rw [ht] <;> rfl
    | shutdown | link ser plc | clock ts =>
      obtain rfl := Host.Outcome.next.inj hstim
      exact .inl ⟨rfl, fun hst => by cases hres hst⟩

theorem reserved_notMem_successors (shutdown : Bool) (st : St) : St.reserved ∉ successors shutdown st := by
  cases shutdown <;> cases st <;> decide

theorem eq_of_failed_mem_successors {shutdown : Bool} {st : St} (h : St.failed ∈ successors shutdown st) :
    st = .failed ∨ st = .init := by
  revert h
  cases shutdown <;> cases st <;> decide

/-- With shutdown set DECODE is no successor. -/
theorem decode_notMem_successors (st : St) : St.decode ∉ successors true st := by
  cases st <;> decide

/-- Settles O28: the reserved code is no successor, and another agent's step keeps `st` only outside it. -/
theorem reservedStateFaults : Obligations.ReservedStateFaults := by
  refine ⟨fun _ => rfl, fun s => step_of_reserved, fun s t h hres => ?_⟩
  rcases st_step h with ⟨hkept, hst⟩ | hmem | ⟨-, hinit⟩
  · exact hst (hkept.symm.trans hres)
  · exact reserved_notMem_successors _ _ (hres ▸ hmem)
  · cases hres.symm.trans hinit

/-- Settles O53: with shutdown set AWAIT's one successor is TEARDOWN, and no state has DECODE for one. -/
theorem noCycleStartsAfterShutdown : Obligations.NoCycleStartsAfterShutdown := by
  intro s t hshut h
  have hmove := st_step h
  rw [hshut] at hmove
  refine ⟨fun hdecode => ?_, fun hawait => ?_, fun hawait hturn => ?_⟩
  · rcases hmove with ⟨hkept, -⟩ | hmem | ⟨-, hinit⟩
    · exact hkept.symm.trans hdecode
    · exact absurd (hdecode ▸ hmem) (decode_notMem_successors _)
    · cases hdecode.symm.trans hinit
  · rcases hmove with ⟨hkept, -⟩ | hmem | hreset
    · exact .inl (hkept.trans hawait)
    · rw [hawait] at hmem
      exact .inr (.inl (List.mem_singleton.1 hmem))
    · exact .inr (.inr hreset)
  · obtain ⟨hlegal, -⟩ := step_next h
    have hmem : t.st ∈ successors s.shutdown s.st := by
      rcases hturn with hs | ⟨rest, hs⟩
      · rw [step_of_legal hlegal, turn_nil hs, runCore_eq_exec] at h
        exact st_exec h
      · rw [step_core hlegal hs] at h
        exact st_exec (s := { s with sched := rest }) h
    rw [hshut, hawait] at hmem
    exact List.mem_singleton.1 hmem

/-! ### The end of a run (R214, R215, R221) -/

/-- What the steps after the end of a run can change: the shutdown flag, the inputs, the schedule, and the history by shutdown
pulses. -/
def EndedStep (s t : State) : Prop :=
  (∃ es, Adds s t es ∧ ∀ e ∈ es, e = .shutdown) ∧
  t = { s with
    shutdown := t.shutdown, serLinkOk := t.serLinkOk, plcLinkOk := t.plcLinkOk, wallclock := t.wallclock
    sched := t.sched, events := t.events }

/-- A turn that changes nothing but the inputs and the schedule. -/
theorem EndedStep.of_quiet {s t : State} (h : t = { s with
    serLinkOk := t.serLinkOk, plcLinkOk := t.plcLinkOk, wallclock := t.wallclock, sched := t.sched }) : EndedStep s t := by
  rw [h]
  exact ⟨⟨[], adds_nil rfl, by simp⟩, rfl⟩

theorem exec_of_ended {s : State} (h : RunEnded s) : exec (instrOfSt s.st) s = .next s := by
  rcases h with hst | hst <;> rw [hst] <;> rfl

theorem plcEnabled_of_ended {s : State} (h : RunEnded s) : plcEnabled s = false := by
  rcases h with hst | hst <;> simp [plcEnabled, plcOpOf, hst]

theorem txEnabled_of_ended {s : State} (h : RunEnded s) : txEnabled s = false := by
  rcases h with hst | hst <;> simp [txEnabled, hst]

/-- Every stimulus but a reset leaves an ended run ended. -/
theorem endedStep_of_stimulate {s t : State} {e : Stimulus} (hend : RunEnded s) (hreset : e ≠ .reset)
    (h : stimulate e s = .next t) : EndedStep s t := by
  cases e with
  | reset => exact absurd rfl hreset
  | core =>
    rw [stimulate, runCore_eq_exec, exec_of_ended hend] at h
    obtain rfl := Host.Outcome.next.inj h
    exact .of_quiet rfl
  | rx b =>
    obtain rfl := Host.Outcome.next.inj h
    have hignored : rxByte b s = s := if_neg (by simp [(rxOpen_eq_false_iff s).2 hend])
    rw [hignored]
    exact .of_quiet rfl
  | rsp r =>
    rw [stimulate, plcRespond_of_disabled r (plcEnabled_of_ended hend)] at h
    obtain rfl := Host.Outcome.next.inj h
    exact .of_quiet rfl
  | accept =>
    have hclosed : txAccept s = .next s := if_neg (by simp [txEnabled_of_ended hend])
    obtain rfl := Host.Outcome.next.inj (hclosed.symm.trans h)
    exact .of_quiet rfl
  | shutdown =>
    obtain rfl := Host.Outcome.next.inj h
    exact ⟨⟨[.shutdown], rfl, by simp⟩, rfl⟩
  | link ser plc | clock ts =>
    obtain rfl := Host.Outcome.next.inj h
    exact .of_quiet rfl

theorem endedStep_of_step {s t : State} (hend : RunEnded s) (h : step s = .next t) (hreset : ¬NextIsReset s) :
    EndedStep s t := by
  obtain ⟨-, ⟨-, hexec⟩ | ⟨-, hexec⟩ | ⟨e, rest, hs, -, hstim⟩⟩ := step_next h
  · obtain rfl := Host.Outcome.next.inj ((exec_of_ended hend).symm.trans hexec)
    exact .of_quiet rfl
  · obtain rfl := Host.Outcome.next.inj ((exec_of_ended hend).symm.trans hexec)
    exact .of_quiet rfl
  · have he : e ≠ .reset := fun h => hreset ⟨rest, by rw [hs, h]⟩
    exact endedStep_of_stimulate (s := { s with sched := rest }) hend he hstim

/-- Settles O27: an ended run's steps change nothing else, and FAILED is a successor of INIT and itself alone. -/
theorem haltedAndFailedAreTerminal : Obligations.HaltedAndFailedAreTerminal := by
  refine ⟨fun _ => ⟨rfl, rfl⟩, fun s t hend h hreset => ?_, fun s t h hfailed => ?_⟩
  · obtain ⟨hadds, ht⟩ := endedStep_of_step hend h hreset
    exact ⟨by rw [ht], by rw [ht], hadds, ht⟩
  · rcases st_step h with ⟨hkept, -⟩ | hmem | ⟨-, hinit⟩
    · exact .inl (hkept.symm.trans hfailed)
    · exact eq_of_failed_mem_successors (hfailed ▸ hmem)
    · cases hfailed.symm.trans hinit

/-! ### A whole cycle (R223)

A cycle is run stage by stage: each lemma prolongs a run by one stage, from what the state reached holds. The requests, replies
and records of the stages are those of the statements about their instructions. -/

/-- `k` steps from `s` end in `t`. -/
def Runs (k : Nat) (s t : State) : Prop := Sys2Proof.core.run k s = .next t

theorem run_succ_iff (M : Host.Core) {k : Nat} {s t : M.State} :
    M.run (k + 1) s = .next t ↔ ∃ u, M.step s = .next u ∧ M.run k u = .next t := by
  rw [Host.Core.run]
  cases M.step s <;> simp

theorem runs_succ_iff {k : Nat} {s t : State} : Runs (k + 1) s t ↔ ∃ u, step s = .next u ∧ Runs k u t :=
  run_succ_iff Sys2Proof.core

/-- A run goes on by one step at its end. -/
theorem Runs.next {k : Nat} {s t u : State} (h : Runs k s t) (hstep : step t = .next u) : Runs (k + 1) s u := by
  induction k generalizing s with
  | zero =>
    obtain rfl := Host.Outcome.next.inj h
    exact runs_succ_iff.2 ⟨u, hstep, rfl⟩
  | succ k ih =>
    obtain ⟨v, hfirst, hrest⟩ := runs_succ_iff.1 h
    exact runs_succ_iff.2 ⟨v, hfirst, ih hrest⟩

/-- Bytes 1 to 7 of a group of ten. -/
theorem take_drop_eq_byteAt {bs : List Byte} (hlen : bs.length = 10) : (bs.drop 1).take 7 =
    [byteAt bs 1, byteAt bs 2, byteAt bs 3, byteAt bs 4, byteAt bs 5, byteAt bs 6, byteAt bs 7] := by
  match bs, hlen with
  | [_, _, _, _, _, _, _, _, _, _], _ => rfl

/-- The SensorFrame registers hold the fields of the group `bs` (30_encoding.md R104). -/
def Loaded (bs : List Byte) (s : State) : Prop :=
  s.level1 = some (byteAt bs 1) ∧ s.level2 = some (byteAt bs 2) ∧ s.tds = some (byteAt bs 3) ∧ s.flow = some (byteAt bs 4)
    ∧ s.pressure = some (byteAt bs 5) ∧ s.inF = some (byteAt bs 6) ∧ s.outF = some (byteAt bs 7)
    ∧ s.outF2 = some (lowSix (byteAt bs 8))

/-- `s` at WR_ANALOG, with the group `bs` taken from the FIFO and loaded, and `more` scheduled. -/
def framed (bs rest : List Byte) (more : List Stimulus) (s : State) : State :=
  { s with
    rxq := rest, frm := some bs, level1 := some (byteAt bs 1), level2 := some (byteAt bs 2), tds := some (byteAt bs 3)
    flow := some (byteAt bs 4), pressure := some (byteAt bs 5), inF := some (byteAt bs 6), outF := some (byteAt bs 7)
    outF2 := some (lowSix (byteAt bs 8)), fv := true, st := .wrAnalog, sched := more }

theorem loaded_framed (bs rest : List Byte) (more : List Stimulus) (s : State) : Loaded bs (framed bs rest more s) :=
  ⟨rfl, rfl, rfl, rfl, rfl, rfl, rfl, rfl⟩

/-- `s` at `st`, after the request `r` and its response `w`, with `more` scheduled. -/
def exchanged (r : Request) (w : RspWord) (st : St) (more : List Stimulus) (s : State) : State :=
  { s with st := st, pend := false, rspIn := none, ret := none, sched := more, events := s.events ++ [.req r, .rsp w] }

section
variable {k : Nat} {s t : State} {bs rest : List Byte} {more : List Stimulus} (hrun : Runs k s t)
  (hlegal : cfgLegal t.cfg = true)
include hrun hlegal

/-- AWAIT and DECODE take a good frame (R202, R203). -/
theorem Runs.frame (hst : t.st = .await) (hshut : t.shutdown = false) (hrxq : t.rxq = bs ++ rest) (hlen : bs.length = 10)
    (hstart : byteAt bs 0 = 0xAA#8) (hsum : xorfold (bs.take 9) = byteAt bs 9) (hs : t.sched = .core :: .core :: more) :
    Runs (k + 2) s (framed bs rest more t) := by
  have hten : 10 ≤ t.rxq.length := by rw [hrxq, List.length_append]; omega
  have hinstr : instrOfSt t.st = .stAwait := congrArg instrOfSt hst
  have hawait : step t = .next { t with st := .decode, sched := .core :: more } := by
    rw [step_core hlegal hs, hinstr]
    exact exec_stAwait_of_ten (s := { t with sched := .core :: more }) hshut hten
  have hdecode : step { t with st := .decode, sched := .core :: more } = .next (framed bs rest more t) := by
    refine (step_core (s := { t with st := .decode, sched := .core :: more }) hlegal rfl).trans ?_
    refine (exec_stDecode_of_head (s := { t with st := .decode, sched := more }) hlen hrxq).trans ?_
    rw [decodeBytes_of_good hlen hstart hsum]
    rfl
  exact (hrun.next hawait).next hdecode

/-- A PLC state issues its request on CORE's turn and goes on by its success when the response comes (R200, R219). -/
theorem Runs.call {op : GatewayOp} {onOk : BitVec 16 → State → Host.Outcome State Fault Refusal} {w : RspWord} {u : State}
    {r : Request} (hop : plcOpOf t.st = some op) (hexec : ∀ v, exec (instrOfSt t.st) v = runPlcState op onOk v)
    (hpend : t.pend = false) (hs : t.sched = .core :: .rsp w :: more) (hok : w.ok = true)
    (hissue : exec (instrOfOp op) { t with sched := .rsp w :: more } = .next (issued r { t with sched := .rsp w :: more }))
    (hdone : onOk w.rdata (exchanged r w t.st more t) = .next u) : Runs (k + 2) s u := by
  have hcall : (plcOpOf t.st).isSome = true := by rw [hop]; rfl
  have hst : t.st ≠ .reserved := fun h => by simp [h, plcOpOf] at hop
  have hrequest : step t = .next (issued r { t with sched := .rsp w :: more }) := by
    refine (step_core hlegal hs).trans ((hexec _).trans ?_)
    rw [← hissue]
    exact runPlcState_eq_exec (.inl hpend)
  have hevents : t.events ++ [Event.req r] ++ [.rsp w] = t.events ++ [.req r, .rsp w] := List.append_assoc _ _ _
  have hresponse : step (issued r { t with sched := .rsp w :: more }) = .next u := by
    refine (step_stimulus (s := issued r { t with sched := .rsp w :: more }) hlegal rfl hst).trans ?_
    refine (plcRespond_of_outstanding (s := issued r { t with sched := more }) w rfl hcall).trans ?_
    refine (hexec _).trans ((runPlcState_of_success rfl rfl hok).trans ?_)
    rw [exchanged, ← hevents] at hdone
    exact hdone
  exact (hrun.next hrequest).next hresponse

section
variable {w : RspWord} (hpend : t.pend = false) (hs : t.sched = .core :: .rsp w :: more) (hok : w.ok = true)
include hpend hs hok

theorem Runs.wrAnalog (hst : t.st = .wrAnalog) (hframe : Loaded bs t) :
    ∃ r, IsAnalogWrite t.cfg [byteAt bs 1, byteAt bs 2, byteAt bs 3, byteAt bs 4, byteAt bs 5] r ∧
      Runs (k + 2) s (exchanged r w .rdOverride more t) := by
  obtain ⟨hl1, hl2, htds, hflow, hpressure, -⟩ := hframe
  obtain ⟨r, hr, hissue⟩ := writeAnalogIssuesItsRequest { t with sched := .rsp w :: more } _ _ _ _ _ hpend hl1 hl2 htds hflow
    hpressure
  exact ⟨r, hr, hrun.call hlegal (op := .writeAnalog) (by rw [hst]; rfl) (by rw [hst]; exact fun _ => rfl) hpend hs hok hissue
    rfl⟩

theorem Runs.rdOverride {coil : BitVec 16} {v : Bool} (hst : t.st = .rdOverride) (hcoil : t.cfg.overrideCoil = some coil)
    (hv : w.rdata.getLsbD 0 = v) :
    ∃ r, IsCoilRead coil 1#5 r ∧ Runs (k + 2) s
      { exchanged r w (if v then .rdActuators else .wrInflags) more t with ovr := some v, ovrV := true } := by
  obtain ⟨hread, -⟩ := coilReadsIssueTheirRequests { t with sched := .rsp w :: more } hpend
  obtain ⟨r, hr, hissue⟩ := hread coil hcoil
  have hmode : overrideOf w.rdata = v := hv
  refine ⟨r, hr, hrun.call hlegal (op := .readOverrideFlag) (by rw [hst]; rfl) (by rw [hst]; exact fun _ => rfl) hpend hs hok
    hissue ?_⟩
  rw [hmode]
  rfl

theorem Runs.wrInflags (hst : t.st = .wrInflags) (hframe : Loaded bs t) :
    ∃ r, IsCoilWrite t.cfg.inflagBase 8#5 (byteAt bs 6) r ∧ Runs (k + 2) s (exchanged r w .wrOutflags more t) := by
  obtain ⟨-, -, -, -, -, hin, -, -⟩ := hframe
  obtain ⟨hwrite, -, -⟩ := flagWritesIssueTheirRequests { t with sched := .rsp w :: more } hpend
  obtain ⟨r, hr, hissue⟩ := hwrite _ hin
  exact ⟨r, hr, hrun.call hlegal (op := .writeInputFlags) (by rw [hst]; rfl) (by rw [hst]; exact fun _ => rfl) hpend hs hok
    hissue rfl⟩

theorem Runs.wrOutflags (hst : t.st = .wrOutflags) (hframe : Loaded bs t) :
    ∃ r, IsCoilWrite t.cfg.outflagBase 8#5 (byteAt bs 7) r ∧ Runs (k + 2) s (exchanged r w .wrOutflags2 more t) := by
  obtain ⟨-, -, -, -, -, -, hout, -⟩ := hframe
  obtain ⟨-, hwrite, -⟩ := flagWritesIssueTheirRequests { t with sched := .rsp w :: more } hpend
  obtain ⟨r, hr, hissue⟩ := hwrite _ hout
  exact ⟨r, hr, hrun.call hlegal (op := .writeOutputFlags) (by rw [hst]; rfl) (by rw [hst]; exact fun _ => rfl) hpend hs hok
    hissue rfl⟩

theorem Runs.wrOutflags2 (hst : t.st = .wrOutflags2) (hframe : Loaded bs t) :
    ∃ r, IsCoilWrite t.cfg.outflag2Base 6#5 (lowSix (byteAt bs 8)) r ∧
      Runs (k + 2) s (loadReply [0xFF#8] (exchanged r w .wrOutflags2 more t)) := by
  obtain ⟨-, -, -, -, -, -, -, hout2⟩ := hframe
  obtain ⟨-, -, hwrite⟩ := flagWritesIssueTheirRequests { t with sched := .rsp w :: more } hpend
  obtain ⟨r, hr, hissue⟩ := hwrite _ hout2
  exact ⟨r, hr, hrun.call hlegal (op := .writeOutputFlags2) (by rw [hst]; rfl) (by rw [hst]; exact fun _ => rfl) hpend hs hok
    hissue (by rw [hst]; rfl)⟩

theorem Runs.rdActuators {a : BitVec 16} (hst : t.st = .rdActuators) (ha : IsPadded w.rdata t.cfg.actCount a) :
    ∃ r, IsCoilRead t.cfg.actBase (BitVec.ofNat 5 t.cfg.actCount) r ∧
      Runs (k + 2) s (loadReply [0xBB#8, a.extractLsb' 0 8, a.extractLsb' 8 8]
        { exchanged r w .rdActuators more t with act := some a }) := by
  obtain ⟨-, r, hr, hissue⟩ := coilReadsIssueTheirRequests { t with sched := .rsp w :: more } hpend
  have himage : actuatorsOf t.cfg w.rdata = a := actuatorsOf_of_isPadded ha
  refine ⟨r, hr, hrun.call hlegal (op := .readActuatorCoils) (by rw [hst]; rfl) (by rw [hst]; exact fun _ => rfl) hpend hs hok
    hissue ?_⟩
  have hcfg : (exchanged r w t.st more t).cfg = t.cfg := rfl
  rw [hcfg, himage, encodeOverride_coilsOf, hst]
  rfl

end

/-- One byte of the reply is accepted (R220). -/
theorem Runs.accept {b : Byte} (hs : t.sched = .accept :: more) (hst : t.st = .sendReply) (hlt : t.txi < t.txn)
    (hb : [t.txb0, t.txb1, t.txb2][t.txi]? = some (some b)) :
    Runs (k + 1) s { t with sched := more, txi := t.txi + 1, events := t.events ++ [.tx b] } := by
  obtain ⟨haccept, -⟩ := transmitAcceptTakesTheOfferedByte t more hlegal hs
  exact hrun.next (haccept b hst hlt hb)

/-- With the reply sent PERSIST runs (R210). -/
theorem Runs.persist {u : State} (hs : t.sched = .core :: .core :: more) (hst : t.st = .sendReply) (hsent : t.txi = t.txn)
    (hexec : exec .stPersist { t with st := .persist, sched := more } = .next u) : Runs (k + 2) s u := by
  obtain ⟨hdone, -⟩ := sendReplyWaitsForEveryByte { t with sched := .core :: more }
  have hinstr : instrOfSt t.st = .stSendReply := congrArg instrOfSt hst
  have hreply : step t = .next { t with st := .persist, sched := .core :: more } := by
    rw [step_core hlegal hs, hinstr]
    exact hdone hsent
  exact (hrun.next hreply).next ((step_core (s := { t with st := .persist, sched := .core :: more }) hlegal rfl).trans hexec)

section
variable (hs : t.sched = .core :: .core :: more) (hst : t.st = .sendReply) (hsent : t.txi = t.txn) (hlen : bs.length = 10)
  (hframe : Loaded bs t)
include hs hst hsent hlen hframe

/-- The record of a NORMAL cycle applies the frame's own output flags, and AWAIT is entered again (R211). -/
theorem Runs.persist_normal (hovr : t.ovr = some false) : ∃ rec,
    recordBytes rec = (bs.drop 1).take 7 ++ [(lowSix (byteAt bs 8)).setWidth 8, 0x00#8, byteAt bs 7,
      (lowSix (byteAt bs 8)).setWidth 8] ++ (List.range 8).map (fun j => t.wallclock.extractLsb' (8 * j) 8) ∧
    Runs (k + 2) s (backInAwait { t with sched := more, events := t.events ++ [.pst rec] }) := by
  obtain ⟨hl1, hl2, htds, hflow, hpressure, hin, hout, hout2⟩ := hframe
  obtain ⟨hnormal, -⟩ := persistEmitsTheNineteenBytes { t with st := .persist, sched := more } _ _ _ _ _ _ _ _ hl1 hl2 htds
    hflow hpressure hin hout hout2
  obtain ⟨rec, hrec, hexec⟩ := hnormal hovr
  rw [take_drop_eq_byteAt hlen]
  exact ⟨rec, hrec, hrun.persist hlegal hs hst hsent hexec⟩

/-- The record of an OVERRIDE cycle applies the image, and AWAIT is entered again (R211). -/
theorem Runs.persist_override {a : BitVec 16} (hovr : t.ovr = some true) (hact : t.act = some a) : ∃ rec,
    recordBytes rec = (bs.drop 1).take 7 ++ [(lowSix (byteAt bs 8)).setWidth 8, 0x01#8, a.extractLsb' 0 8,
      a.extractLsb' 8 8] ++ (List.range 8).map (fun j => t.wallclock.extractLsb' (8 * j) 8) ∧
    Runs (k + 2) s (backInAwait { t with sched := more, events := t.events ++ [.pst rec] }) := by
  obtain ⟨hl1, hl2, htds, hflow, hpressure, hin, hout, hout2⟩ := hframe
  obtain ⟨-, hoverride⟩ := persistEmitsTheNineteenBytes { t with st := .persist, sched := more } _ _ _ _ _ _ _ _ hl1 hl2 htds
    hflow hpressure hin hout hout2
  obtain ⟨rec, hrec, hexec⟩ := hoverride a hovr hact
  rw [take_drop_eq_byteAt hlen]
  exact ⟨rec, hrec, hrun.persist hlegal hs hst hsent hexec⟩

end

end

/-- In AWAIT of the invariant no request is outstanding. -/
theorem pend_of_await {s : State} (h : Inv s) (hst : s.st = .await) : s.pend = false := by
  obtain ⟨-, -, -, hpend⟩ := h.coreReady.idle (by rw [hst]; rfl)
  exact hpend

/-- Settles O55: the stages of a NORMAL cycle, one after the other. -/
theorem normalCycleShape : Obligations.NormalCycleShape := by
  intro s bs rest coil w1 w2 w3 w4 w5 more hinv hst hshut hrxq hlen hstart hsum hcoil hok1 hok2 hmode hok3 hok4 hok5 hs
  have hlegal := hinv.legal
  have hpend := pend_of_await hinv hst
  have hbegin : Runs 0 s s := rfl
  have hframe := hbegin.frame hlegal hst hshut hrxq hlen hstart hsum hs
  have hloaded := loaded_framed bs rest more s
  obtain ⟨r1, hr1, hanalog⟩ := hframe.wrAnalog hlegal hpend rfl hok1 rfl hloaded
  obtain ⟨r2, hr2, hquery⟩ := hanalog.rdOverride hlegal rfl rfl hok2 rfl hcoil hmode
  obtain ⟨r3, hr3, hin⟩ := hquery.wrInflags hlegal rfl rfl hok3 rfl hloaded
  obtain ⟨r4, hr4, hout⟩ := hin.wrOutflags hlegal rfl rfl hok4 rfl hloaded
  obtain ⟨r5, hr5, hout2⟩ := hout.wrOutflags2 hlegal rfl rfl hok5 rfl hloaded
  have hack := hout2.accept hlegal rfl rfl Nat.zero_lt_one rfl
  obtain ⟨rec, hrec, hend⟩ := hack.persist_normal hlegal rfl rfl rfl hlen hloaded rfl
  refine ⟨_, r1, r2, r3, r4, r5, rec, hend, hr1, hr2, hr3, hr4, hr5, hrec, ?_, rfl, rfl, rfl, ?_⟩
  · simp [Adds, backInAwait, exchanged, framed]
  · simp [CycleCleared, backInAwait]

/-- Settles O56: the stages of an OVERRIDE cycle, one after the other. -/
theorem overrideCycleShape : Obligations.OverrideCycleShape := by
  intro s bs rest coil a w1 w2 w3 more hinv hst hshut hrxq hlen hstart hsum hcoil hok1 hok2 hmode hok3 ha hs
  have hlegal := hinv.legal
  have hpend := pend_of_await hinv hst
  have hbegin : Runs 0 s s := rfl
  have hframe := hbegin.frame hlegal hst hshut hrxq hlen hstart hsum hs
  have hloaded := loaded_framed bs rest more s
  obtain ⟨r1, hr1, hanalog⟩ := hframe.wrAnalog hlegal hpend rfl hok1 rfl hloaded
  obtain ⟨r2, hr2, hquery⟩ := hanalog.rdOverride hlegal rfl rfl hok2 rfl hcoil hmode
  obtain ⟨r3, hr3, himage⟩ := hquery.rdActuators hlegal rfl rfl hok3 rfl ha
  have hlead := himage.accept hlegal rfl rfl (show 0 < 3 by decide) rfl
  have hone := hlead.accept hlegal rfl rfl (show 1 < 3 by decide) rfl
  have htwo := hone.accept hlegal rfl rfl (show 2 < 3 by decide) rfl
  obtain ⟨rec, hrec, hend⟩ := htwo.persist_override hlegal rfl rfl rfl hlen hloaded rfl rfl
  refine ⟨_, r1, r2, r3, rec, hend, hr1, hr2, hr3, hrec, ?_, rfl, rfl, rfl, ?_⟩
  · simp [Adds, backInAwait, exchanged, framed]
  · simp [CycleCleared, backInAwait]

end Sys2Proof.BridgeLoop
end

section
/-! PROOFS. The statements of 60_exceptions.md: each error with its log word and its next state, and what either authority mode
lets the block ask of the PLC. -/

namespace Sys2Proof.Exceptions

open Sys2Proof.Machine Sys2Proof.Safety Sys2Proof.Encoding Sys2Proof.Codec Sys2Proof.Gateway Sys2Proof.BridgeLoop

/-! ### Error entry (R250, R252, R259) -/

/-- A failure response ends a PLC state as the log of its gateway error, taken once the call is over (R252). -/
theorem runPlcState_of_failure_eq_log {s : State} {r : RspWord} (hpend : s.pend = true) (hrsp : s.rspIn = some r)
    (hfail : r.ok = false) (op : GatewayOp) (onOk : BitVec 16 → State → Host.Outcome State Fault Refusal) :
    runPlcState op onOk s = exec (.logGatewayError op (causeOfCode r.cause)) (answered s) := by
  have hresponse : responseOf r = .err (causeOfCode r.cause) := if_neg (by simp [hfail])
  rw [runPlcState, plcCall_returns hpend hrsp, hresponse]
  rfl

/-- Settles O8: one failing call, at each of the six operations. -/
theorem plcFailureIsTheGatewayLog : Obligations.PlcFailureIsTheGatewayLog := by
  intro s r hpend hrsp hfail c
  have hlog := runPlcState_of_failure_eq_log hpend hrsp hfail
  exact ⟨hlog .writeAnalog _, hlog .readOverrideFlag _, hlog .writeInputFlags _, hlog .writeOutputFlags _,
    hlog .writeOutputFlags2 _, hlog .readActuatorCoils _⟩

/-- An 8-bit length is logged as it is. -/
theorem errorWord_badLength_toNat (n : Byte) : errorWord (.framing (.badLength n.toNat)) = logWordOf 0 n 0 0xF 0x1 := by
  rw [errorWord, BitVec.ofNat_toNat, BitVec.setWidth_eq]

/-- Settles O29: each log row enters its error, and the word's fields are those it was built from. -/
theorem logsTakeTheirError : Obligations.LogsTakeTheirError := by
  intro s
  refine ⟨fun n => ⟨_, logFields_logWordOf 0 n 0 0xF 0x1, ?badLength⟩,
    fun b => ⟨_, logFields_logWordOf 0 b 0 0xF 0x2, rfl⟩,
    fun c r => ⟨_, logFields_logWordOf r c 0 0xF 0x3, rfl⟩,
    fun op c => ⟨_, logFields_logWordOf 0 0 (causeCode c) (opCode op) 0x4, rfl⟩,
    fun ser plc => ⟨_, startupAux ser plc, logFields_logWordOf 0 _ 0 0xF 0x5, startupAux_getElem_zero ser plc,
      startupAux_getElem_one ser plc, fun _ => startupAux_getLsbD_of_two_le ser plc, rfl⟩⟩
  rw [← errorWord_badLength_toNat]
  rfl

/-! ### The authority modes (R262) -/

/-- What `ovr` holds in the state that calls an operation: no value up to the query, then the mode that the query answered
(42_bridge_loop.md R204 to R209). -/
def callMode : GatewayOp → Option Bool
  | .writeAnalog | .readOverrideFlag => none
  | .writeInputFlags | .writeOutputFlags | .writeOutputFlags2 => some false
  | .readActuatorCoils => some true

/-- The invariant fixes the mode of every PLC state. -/
theorem ovr_eq_callMode {s : State} {op : GatewayOp} (hinv : Inv s) (hst : plcOpOf s.st = some op) : s.ovr = callMode op := by
  have hphase := hinv.phase
  cases hs : s.st <;> simp only [PhaseOk, hs] at hphase hst
  case wrAnalog | rdOverride | wrInflags | wrOutflags | wrOutflags2 | rdActuators =>
    obtain rfl := Option.some.inj hst
    obtain ⟨-, ⟨hovr, -⟩, -⟩ := hphase
    exact hovr
  all_goals cases hst

/-- Every operation's request carries its function code and its count (30_encoding.md R99). -/
theorem header_of_operandsOf {op : GatewayOp} {s : State} {r : Request} (h : operandsOf op s = .next r) :
    r.fc = opFc op ∧ r.cnt = opCnt s.cfg op := by
  cases op with
  | writeAnalog =>
    obtain ⟨l1, -, h⟩ := readReg_next h
    obtain ⟨l2, -, h⟩ := readReg_next h
    obtain ⟨tds, -, h⟩ := readReg_next h
    obtain ⟨flow, -, h⟩ := readReg_next h
    obtain ⟨pressure, -, h⟩ := readReg_next h
    obtain rfl := Host.Outcome.next.inj h
    exact ⟨rfl, rfl⟩
  | writeInputFlags | writeOutputFlags | writeOutputFlags2 =>
    obtain ⟨flags, -, h⟩ := readReg_next h
    obtain rfl := Host.Outcome.next.inj h
    exact ⟨rfl, rfl⟩
  | readOverrideFlag =>
    rw [operandsOf] at h
    split at h <;> cases h
    exact ⟨rfl, rfl⟩
  | readActuatorCoils =>
    obtain rfl := Host.Outcome.next.inj h
    exact ⟨rfl, rfl⟩

/-- A request that CORE adds is the one of the state it is in. -/
theorem operandsOf_of_coreAdds {s : State} {es : List Event} {r : Request} (h : CoreAdds s es) (hr : Event.req r ∈ es) :
    ∃ op, plcOpOf s.st = some op ∧ operandsOf op s = .next r := by
  cases h with
  | request op rq hst hpend hrq =>
    obtain rfl : r = rq := by simpa using hr
    exact ⟨op, hst, hrq⟩
  | nothing | logged e | record rec hst | closed hst => simp at hr

/-- Whoever takes it, a step that adds a request adds the one of the state it is taken in. -/
theorem operandsOf_of_step_req {s t : State} {es : List Event} {r : Request} (h : step s = .next t) (hadds : Adds s t es)
    (hr : Event.req r ∈ es) : ∃ op, plcOpOf s.st = some op ∧ operandsOf op s = .next r := by
  obtain ⟨es', hes, hadds'⟩ := stepAddsTo_of_step h
  rw [hadds.unique hadds'] at hr
  cases hes with
  | core hcore => exact operandsOf_of_coreAdds hcore hr
  | answered w hpend hcore => exact operandsOf_of_coreAdds hcore (by simpa using hr)
  | ignored | stored b | dropped b | sent b | pulsed | cleared => simp at hr

/-- Settles O51: the request's function code and count name the operation, and the operation's state has one mode. -/
theorem flagCoilsAreWrittenOnlyInNormal : Obligations.FlagCoilsAreWrittenOnlyInNormal := by
  intro s t es r hinv h hadds hr
  obtain ⟨op, hst, hreq⟩ := operandsOf_of_step_req h hadds hr
  obtain ⟨hfc, hcnt⟩ := header_of_operandsOf hreq
  have hreads := opCnt_reads_ne hinv.legal
  rw [ovr_eq_callMode hinv hst, hfc, hcnt]
  cases op with
  | writeAnalog => simp [opFc]
  | writeInputFlags | writeOutputFlags | writeOutputFlags2 => simp [opFc, callMode]
  | readOverrideFlag => simp [opFc, callMode, opCnt, opCells]
  | readActuatorCoils => exact ⟨by simp [opFc], fun _ _ => rfl, fun _ hone => absurd hone hreads⟩

end Sys2Proof.Exceptions
end

section
/-! PROOFS. The statements of 70_reset_and_hazards.md: what a reset leaves of the block, and the invariant right after it. -/

namespace Sys2Proof.Reset

open Sys2Proof.Machine Sys2Proof.Safety

/-- A reset overrides whatever else holds: its turn is taken at the reserved code too (R280). -/
theorem turn_reset {s : State} {rest : List Stimulus} (h : s.sched = .reset :: rest) :
    turn s = .next (resetBlock { s with sched := rest }) := by
  simp [turn, h, stimulate]

/-- Settles O33: the reset's turn, in any state, ends in `resetBlock`, which writes out the values of R281. -/
theorem resetTakesEveryRegister : Obligations.ResetTakesEveryRegister := by
  intro s rest hlegal hs
  have hstep : step s = .next (resetBlock { s with sched := rest }) := by
    rw [step_of_legal hlegal, turn_reset hs]
  exact ⟨resetBlock { s with sched := rest }, hstep, rfl, rfl, rfl⟩

/-- The defaults of 00_scope.md R7 are legal whatever override coil is given: R23 asks of the coil only that it is given. -/
theorem cfgLegal_withDefaults (coil : BitVec 16) : cfgLegal (Config.withDefaults coil) = true := by
  rw [cfgLegal_iff]
  simp [Config.withDefaults]

/-- No cycle register holds a value at reset (R281). -/
theorem cycleCleared_reset : CycleCleared State.reset := by
  simp [CycleCleared, State.reset]

/-- Settles O44: at reset the port is idle, and the phase INIT asks only for cleared cycle registers. -/
theorem invariantAtReset : Obligations.InvariantAtReset := by
  have hidle : Idle State.reset := ⟨cfgLegal_withDefaults Config.overrideCoilParam, Nat.zero_le _, rfl, rfl⟩
  exact hidle.inv cycleCleared_reset

end Sys2Proof.Reset
end

section
/-! PROOFS. The laws of 40_codec.md section 5: what the whole frame's fold says of a frame, flipped bits, and the round trips of
the frame and of the packed bytes. -/

namespace Sys2Proof.Codec

open Sys2Proof.Machine

/-! ### The fold of a longer or changed sequence (R130) -/

/-- The start value of the fold comes out in front. -/
theorem foldl_xor_eq_xor_xorfold (bs : List Byte) (a : Byte) : bs.foldl (· ^^^ ·) a = a ^^^ xorfold bs :=
  BitVec.eq_of_getLsbD_eq fun i _ => by rw [getLsbD_foldl_xor, BitVec.getLsbD_xor, getLsbD_xorfold]

theorem xorfold_cons (b : Byte) (bs : List Byte) : xorfold (b :: bs) = b ^^^ xorfold bs :=
  (foldl_xor_eq_xor_xorfold bs (0#8 ^^^ b)).trans (by rw [BitVec.zero_xor])

theorem xorfold_append_singleton (bs : List Byte) (b : Byte) : xorfold (bs ++ [b]) = xorfold bs ^^^ b :=
  List.foldl_append

/-- A mask put on one byte shows in the fold as the mask itself. -/
theorem xorfold_set_xor {bs : List Byte} {j : Nat} (hj : j < bs.length) (mask : Byte) :
    xorfold (bs.set j (byteAt bs j ^^^ mask)) = xorfold bs ^^^ mask := by
  induction bs generalizing j with
  | nil => simp at hj
  | cons b bs ih =>
    cases j with
    | zero =>
      rw [List.set_cons_zero, xorfold_cons, xorfold_cons]
      change b ^^^ mask ^^^ xorfold bs = b ^^^ xorfold bs ^^^ mask
      ac_rfl
    | succ j =>
      have htail : xorfold (bs.set j (byteAt bs j ^^^ mask)) = xorfold bs ^^^ mask := ih (Nat.lt_of_succ_lt_succ hj)
      rw [List.set_cons_succ, xorfold_cons, xorfold_cons, BitVec.xor_assoc, ← htail]
      rfl

/-! ### One byte of a sequence -/

theorem byteAt_eq_getElem {bs : List Byte} {i : Nat} (hi : i < bs.length) : byteAt bs i = bs[i] :=
  List.getD_eq_getElem _ _ hi

theorem byteAt_set_self {bs : List Byte} {i : Nat} (hi : i < bs.length) (b : Byte) : byteAt (bs.set i b) i = b := by
  rw [byteAt_eq_getElem (by rwa [List.length_set]), List.getElem_set_self]

theorem byteAt_set_of_ne {i j : Nat} (hne : i ≠ j) (bs : List Byte) (b : Byte) : byteAt (bs.set i b) j = byteAt bs j := by
  simp only [byteAt, List.getD_eq_getElem?_getD, List.getElem?_set_ne hne]

/-! ### The whole frame's fold (R131) -/

/-- Ten bytes fold to the checksum's difference: the computed fold against byte 9. -/
theorem xorfold_eq_take_xor_byteAt {bs : List Byte} (hlen : bs.length = 10) :
    xorfold bs = xorfold (bs.take 9) ^^^ byteAt bs 9 := by
  have hnine : 9 < bs.length := by omega
  have hsplit : bs.take 9 ++ [bs[9]] = bs := by
    rw [List.take_append_getElem hnine, List.take_of_length_le hlen.le]
  rw [byteAt_eq_getElem hnine, ← xorfold_append_singleton, hsplit]

theorem checksum_eq_iff_xorfold_eq_zero {bs : List Byte} (hlen : bs.length = 10) :
    xorfold (bs.take 9) = byteAt bs 9 ↔ xorfold bs = 0#8 := by
  rw [xorfold_eq_take_xor_byteAt hlen, BitVec.xor_eq_zero_iff]

/-- Settles O39: the fold of ten bytes is the fold of the first nine against byte 9. -/
theorem wholeFrameFoldCheck : Obligations.WholeFrameFoldCheck :=
  fun _ => checksum_eq_iff_xorfold_eq_zero

/-- What decodes is ten bytes with the start byte and the fold 0. -/
theorem codecDecode_ok_iff (bs : List Byte) :
    (∃ f, codecDecode bs = .ok f) ↔ bs.length = 10 ∧ byteAt bs 0 = 0xAA#8 ∧ xorfold bs = 0#8 := by
  constructor
  · rintro ⟨f, hok⟩
    rcases codecDecode_cases bs with ⟨-, h⟩ | ⟨-, -, h⟩ | ⟨-, -, -, h⟩ | ⟨hlen, hstart, hsum, -⟩
    · simp [h] at hok
    · simp [h] at hok
    · simp [h] at hok
    · exact ⟨hlen, hstart, (checksum_eq_iff_xorfold_eq_zero hlen).1 hsum⟩
  · rintro ⟨hlen, hstart, hfold⟩
    exact ⟨_, codecDecode_eq_ok bs hlen hstart ((checksum_eq_iff_xorfold_eq_zero hlen).2 hfold)⟩

/-- A whole frame whose fold is not 0 fails at the checksum. -/
theorem codecDecode_checksumMismatch_of_xorfold_ne {bs : List Byte} (hlen : bs.length = 10)
    (hstart : byteAt bs 0 = 0xAA#8) (hfold : xorfold bs ≠ 0#8) :
    ∃ c r, c ≠ r ∧ codecDecode bs = .error (.checksumMismatch c r) := by
  have hsum : xorfold (bs.take 9) ≠ byteAt bs 9 := mt (checksum_eq_iff_xorfold_eq_zero hlen).1 hfold
  exact ⟨_, _, hsum, (codecDecode_eq_checksumMismatch_iff bs _ _).2 ⟨hlen, hstart, rfl, rfl, hsum⟩⟩

/-! ### Flipped bits -/

/-- A mask on one byte of a good frame: the start byte fails on its own, and every other byte leaves the fold at the mask. -/
theorem codecDecode_set_xor {bs : List Byte} {j : Nat} {mask : Byte} (hok : ∃ f, codecDecode bs = .ok f) (hj : j < 10)
    (hmask : mask ≠ 0#8) :
    let masked := byteAt bs j ^^^ mask
    (j = 0 → codecDecode (bs.set j masked) = .error (.badStartByte masked)) ∧
    (j ≠ 0 → ∃ c r, c ≠ r ∧ codecDecode (bs.set j masked) = .error (.checksumMismatch c r)) := by
  intro masked
  obtain ⟨hlen, hstart, hfold⟩ := (codecDecode_ok_iff bs).1 hok
  have hlen' : (bs.set j masked).length = 10 := List.length_set.trans hlen
  have hin : j < bs.length := hlen ▸ hj
  constructor
  · rintro rfl
    have hne : masked ≠ 0xAA#8 := by
      rw [← hstart]
      exact mt xor_left_eq_self_iff.1 hmask
    exact (codecDecode_eq_badStartByte_iff _ _).2 ⟨hlen', byteAt_set_self hin _, hne⟩
  · intro hj0
    have hfold' : xorfold (bs.set j masked) = mask := by rw [xorfold_set_xor hin, hfold, BitVec.zero_xor]
    exact codecDecode_checksumMismatch_of_xorfold_ne hlen' ((byteAt_set_of_ne hj0 _ _).trans hstart) (hfold' ▸ hmask)

/-- Settles O37: one bit is a mask that is not 0. -/
theorem singleBitFlipIsCaught : Obligations.SingleBitFlipIsCaught := by
  intro bs f j k hok hj hk
  have hbit : BitVec.twoPow 8 k ≠ 0#8 := fun h => by simpa [hk] using congrArg (·.getLsbD k) h
  exact codecDecode_set_xor ⟨f, hok⟩ hj hbit

/-- Settles O38: the two masks meet in the fold and cancel. -/
theorem pairedFlipsPassUnseen : Obligations.PairedFlipsPassUnseen := by
  intro bs f i j mask hok hi1 hi hj1 hj hij
  obtain ⟨hlen, hstart, hfold⟩ := (codecDecode_ok_iff bs).1 ⟨f, hok⟩
  have hstart' : byteAt ((bs.set i (byteAt bs i ^^^ mask)).set j (byteAt bs j ^^^ mask)) 0 = 0xAA#8 := by
    rw [byteAt_set_of_ne (by omega), byteAt_set_of_ne (by omega), hstart]
  have hfold' : xorfold ((bs.set i (byteAt bs i ^^^ mask)).set j (byteAt bs j ^^^ mask)) = 0#8 := by
    rw [← byteAt_set_of_ne hij bs (byteAt bs i ^^^ mask), xorfold_set_xor (by rw [List.length_set]; omega),
      xorfold_set_xor (by omega), hfold, BitVec.zero_xor, BitVec.xor_self]
  exact (codecDecode_ok_iff _).2 ⟨by rw [List.length_set, List.length_set, hlen], hstart', hfold'⟩

/-! ### The round trips (R132, R144) -/

/-- The six flags of byte 8 are its low six bits (R138). -/
theorem lowSix_getLsbD (v : Byte) {i : Nat} (hi : i < 6) : (lowSix v).getLsbD i = v.getLsbD i := by
  simp [lowSix, hi]

/-- Settles O36: the nine bytes and their fold pass the checks, and each field is its byte or its bits. -/
theorem goodPayloadRoundTrips : Obligations.GoodPayloadRoundTrips := by
  intro p hlen hstart
  match p, hlen with
  | [b0, b1, b2, b3, b4, b5, b6, b7, b8], _ =>
    refine ⟨_, codecDecode_eq_ok _ rfl hstart rfl, rfl, rfl, rfl, ?_⟩
    change (List.range 6).map (lowSix b8).getLsbD = (List.range 6).map b8.getLsbD
    exact List.map_congr_left fun i hi => lowSix_getLsbD b8 (List.mem_range.1 hi)

theorem bitsOf8_eq_map_range (v : Byte) : bitsOf8 v = (List.range 8).map v.getLsbD := rfl

/-- Unpacking eight packed booleans gives them back (R139, R140). -/
theorem bitsOf8_pack8 {flags : List Bool} (hlen : flags.length = 8) : bitsOf8 (pack8 flags) = flags := by
  refine List.ext_getElem (by rw [bitsOf8_length, hlen]) fun i _ hi => ?_
  simp only [bitsOf8_eq_map_range, List.getElem_map, List.getElem_range]
  rw [pack8_getLsbD flags (hlen ▸ hi), List.getD_eq_getElem _ _ hi]

/-- Settles O40: each byte gives back its eight booleans. -/
theorem unpackInvertsPack : Obligations.UnpackInvertsPack := by
  intro flags hlen
  rw [unpack16, bitsOf8_pack8 (by rw [List.length_take]; omega), bitsOf8_pack8 (by rw [List.length_drop]; omega),
    List.take_append_drop]

end Sys2Proof.Codec
end
